-- ==== Sys2Proof/Word.lean ====
section
/-! DEFINITION. The word types of the GIC: a register is 32 bits wide (R21, R82), a priority or a
CPU targets field is one byte (R30, R31), and the per-interrupt one-bit variables are kept as one
bit vector with a bit for each of the 1244 interrupts the Distributor can support (R24). -/

namespace Sys2Proof

/-- The contents of one GIC register: "All GIC registers are 32-bits wide." (R21) -/
abbrev Word := BitVec 32

/-- One byte field of a register: a priority (R30) or a CPU targets field (R31). -/
abbrev Byte := BitVec 8

/-- How many interrupts the Distributor can support: 988 SPIs and 32 private identifiers on each of
8 interfaces (R24). -/
abbrev slotCount : Nat := 1244

/-- One bit for each interrupt the Distributor can support (R24). Which bit belongs to which
interrupt is `Sys2Proof.Machine.slot`. -/
abbrev Bits := BitVec 1244

/-- One byte for each interrupt the Distributor can support (R24). -/
structure Bytes where
  toList : List Byte := List.replicate 1244 0#8
  size : toList.length = 1244 := by exact List.length_replicate
  deriving DecidableEq, Repr, Inhabited

/-- The number of a CPU interface and of the processor connected to it: "up to eight CPU
interfaces, numbered from 0-7" (R3, R20). -/
abbrev Cpu := Fin 8

end Sys2Proof
end

