-- ==== Sys2Proof/Config.lean ====
section
/-! DEFINITION. What one implementation fixes: the parameters of R8 as plain data, and the opaque
constants that stand for the values the spec leaves open. Functions of a configuration are in
Sys2Proof/Machine/Params.lean. -/

namespace Sys2Proof

/-- SGI_ENABLE_MODE (R8): whether SGIs are permanently enabled or programmable. -/
inductive SgiEnableMode where
  | permanent
  | programmable
  deriving DecidableEq, Repr, Inhabited

/-- P_MASK (R8): which priority bits are implemented, from the four of 0xF0 to all eight. -/
inductive PriorityMaskParam where
  | f0
  | f8
  | fc
  | fe
  | ff
  deriving DecidableEq, Repr, Inhabited

/-- ACCESS_SEC (R8): the security attributes that accesses of a processor can carry; a constraint on
the environment, not on the GIC (log 19). -/
inductive AccessSecurity where
  | both
  | secureOnly
  | nonsecureOnly
  deriving DecidableEq, Repr, Inhabited

/-- HALFWORD_ACCESS (R8, R86). -/
inductive HalfwordAccess where
  | unsupported
  | bytePairs
  deriving DecidableEq, Repr, Inhabited

/-- IMPDEF_REGS (R8, R88): how IMPLEMENTATION DEFINED addresses read; writes are ignored. -/
inductive ImpdefRegs where
  /-- The default of R88: RAZ/WI. -/
  | razWi
  /-- A read returns some value, drawn afresh each time (log 12). -/
  | anyValue
  deriving DecidableEq, Repr, Inhabited

/-- DIST_ENABLE_POLICY (R8, R45): how the two copies of ICDDCR.Enable gate an interrupt. -/
inductive DistEnablePolicy where
  | bySecurity
  | either
  | secureOnly
  deriving DecidableEq, Repr, Inhabited

/-- EDGE_HIGH_AT_ENABLE (R8, R162). -/
inductive EdgeHighAtEnable where
  | noEdge
  | edge
  deriving DecidableEq, Repr, Inhabited

/-- SPI_DOUBLE_ACK (R8, R441). -/
inductive SpiDoubleAck where
  | forbidden
  | allowed
  deriving DecidableEq, Repr, Inhabited

/-- EOI_ORDER_VIOLATION (R8, R319). -/
inductive EoiOrderViolation where
  | unpredictable
  | removeMatching
  deriving DecidableEq, Repr, Inhabited

/-- DIST_WRITE_LATENCY (R8, R391). -/
inductive DistWriteLatency where
  | immediate
  | delayed
  deriving DecidableEq, Repr, Inhabited

/-- The IMPLEMENTATION DEFINED fields of ICDIIDR and ICCIIDR (R51, R131, R151). The fields the
architecture fixes (bits [23:20] of ICDIIDR, the architecture version of ICCIIDR, bit [7] of both)
are not here. -/
structure IdentificationFields where
  /-- ICDIIDR [31:24]. -/
  distProductId : BitVec 8
  /-- ICDIIDR [19:16]. -/
  distVariant : BitVec 4
  /-- ICDIIDR [15:12]. -/
  distRevision : BitVec 4
  /-- ICDIIDR [11:8], the JEP106 continuation code. -/
  distContinuation : BitVec 4
  /-- ICDIIDR [6:0], the JEP106 identity code. -/
  distIdentity : BitVec 7
  /-- ICCIIDR [31:20]. -/
  cpuProductId : BitVec 12
  /-- ICCIIDR [15:12]. -/
  cpuRevision : BitVec 4
  /-- ICCIIDR [11:8], the JEP106 continuation code. -/
  cpuContinuation : BitVec 4
  /-- ICCIIDR [6:0], the JEP106 identity code. -/
  cpuIdentity : BitVec 7
  deriving DecidableEq, Repr, Inhabited

/-- The twelve identification registers at 0xFD0 to 0xFFC (R52, R124). ICPIDR2 is given without its
bits [7:4], which the architecture fixes to 0x1. -/
structure IdRegisters where
  icpidr4 : Word
  icpidr5 : Word
  icpidr6 : Word
  icpidr7 : Word
  icpidr0 : Word
  icpidr1 : Word
  /-- ICPIDR2 [31:8]. -/
  icpidr2High : BitVec 24
  /-- ICPIDR2 [3:0]. -/
  icpidr2Low : BitVec 4
  icpidr3 : Word
  iccidr0 : Word
  iccidr1 : Word
  iccidr2 : Word
  iccidr3 : Word
  deriving DecidableEq, Repr, Inhabited

/-- The parameters of R8. A per-interrupt parameter is a bit vector over the slots of R24, so for an
SPI it does not depend on the interface, as R9(c) asks (log 17). SOURCE_ID is `sourceId` of
Machine/Operands.lean, TIE_BREAK the constant `Config.tieBreak`. -/
structure Config where
  /-- DBASE, the base address of the Distributor block (R81, I23, log 22). -/
  distBase : Nat
  /-- CBASE(c), the base address of the block of CPU interface c (R81, I22, I23, log 22). -/
  cpuBase : Vector Nat 8
  /-- NCPU - 1, as ICDICTR.CPUNumber holds it: NCPU is 1 to 8. -/
  cpuNumber : BitVec 3
  /-- SECEXT. -/
  secext : Bool
  /-- ITLINES, as ICDICTR.ITLinesNumber holds it. -/
  itLines : BitVec 5
  /-- Impl(c,n); a bit at or above MAXID counts for nothing (R9(b)). -/
  impl : Bits
  /-- PERM_EN(c,n). -/
  permEn : Bits
  sgiEnableMode : SgiEnableMode
  /-- EN_RESET(c,n). -/
  enReset : Bits
  /-- LSPI; counts as 0 without the Security Extensions (R9(a)). -/
  lspi : BitVec 5
  pMask : PriorityMaskParam
  minBinaryPoint : BitVec 2
  /-- FIXED_PRIORITY(c,n), keyed by slot. -/
  fixedPriority : List (Nat × Byte)
  /-- ALWAYS_SECURE(c,n); counts as empty without the Security Extensions (R9(a)). -/
  alwaysSecure : Bits
  /-- ALWAYS_NS(c,n); counts as empty without the Security Extensions (R9(a)). -/
  alwaysNs : Bits
  /-- ICDISR0_RESET(c), the bits of the 256 private slots; others count for nothing. -/
  icdisr0Reset : Bits
  /-- ACCESS_SEC(c). -/
  accessSec : Vector AccessSecurity 8
  /-- PPI_CFG_PROGRAMMABLE(c,n). -/
  ppiProgrammable : Bits
  /-- CFG_RESET(c,n). -/
  cfgReset : Bits
  /-- SPI_TARGET_FIXED(n), keyed by interrupt identifier. -/
  spiTargetFixed : List (Nat × Byte)
  /-- PASS_THROUGH(c), bit c. -/
  passThrough : BitVec 8
  /-- ACTIVE_PRIORITY_TRACKS_ICDIPR. -/
  activePriorityTracks : Bool
  halfword : HalfwordAccess
  /-- CROSS_CPU_ACCESS. -/
  crossCpuAccess : Bool
  ids : IdentificationFields
  idRegs : IdRegisters
  impdefRegs : ImpdefRegs
  distEnablePolicy : DistEnablePolicy
  edgeHighAtEnable : EdgeHighAtEnable
  spiDoubleAck : SpiDoubleAck
  eoiOrderViolation : EoiOrderViolation
  /-- HPIR_PRIORITY_FILTER. -/
  hpirPriorityFilter : Bool
  distWriteLatency : DistWriteLatency
  deriving DecidableEq, Repr, Inhabited

/-- UNKNOWN_32 (R13, R89), drawn afresh at each use: indexed by the use counter of the state (log 5). -/
opaque Config.unknown32 : Nat → Word

/-- TIE_BREAK (R424): which of several equal candidates a use selects, indexed by the use counter of
the state (log 5). -/
opaque Config.tieBreak : Nat → Nat

/-- Whether the idle value of ICCRPR is 0xFF rather than P_MASK at this use (R321, log 5). -/
opaque Config.idleIsAllOnes : Nat → Bool

/-- Whether a read of ICCIAR tries an open double-acknowledge window at this use (R432, log 5). -/
opaque Config.triesWindow : Nat → Bool

/-- Which open double-acknowledge window such a read tries (R432, log 5). -/
opaque Config.pickWindow : Nat → Nat

end Sys2Proof
end

