-- ==== Sys2Proof/Syntax.lean ====
section
/-! DEFINITION. The operations of the GIC that come in an access word (R120): one constructor of
`Instr` per row of spec/opcode_table.json, that is, the read and the write of each register and of
each register range of the two register maps (R122, R123). -/

namespace Sys2Proof

/-- The size of an access: 1, 2 or 4 bytes (R12, R83). -/
inductive AccessSize where
  | byte
  | halfword
  | word
  deriving DecidableEq, Repr, Inhabited

/-- What a Distributor access carries beside its register (R12, R121). -/
structure DistArgs where
  /-- The two low bits of the offset: the byte offset within the register (R121). -/
  lane : BitVec 2
  size : AccessSize
  /-- TRUE for a Non-secure access. -/
  ns : Bool
  /-- The connected processor that made the access, if there is one. -/
  req : Option Cpu
  deriving DecidableEq, Repr, Inhabited

/-- What a CPU interface access carries beside its register (R12, R121). -/
structure CpuArgs where
  /-- The two low bits of the offset: the byte offset within the register (R121). -/
  lane : BitVec 2
  size : AccessSize
  /-- TRUE for a Non-secure access. -/
  ns : Bool
  /-- The connected processor that made the access, if there is one. -/
  req : Option Cpu
  /-- The CPU interface whose registers are addressed. -/
  ifc : Cpu
  deriving DecidableEq, Repr, Inhabited

/-- The registers and register ranges of the Distributor map (R122), with the instance index M of a
range. For a range M counts from the address-aligned start of the range's block of offsets. -/
inductive DistReg where
  | icddcr
  | icdictr
  | icdiidr
  | res00C (m : BitVec 5)
  | icdisr (m : BitVec 5)
  | icdiser (m : BitVec 5)
  | icdicer (m : BitVec 5)
  | icdispr (m : BitVec 5)
  | icdicpr (m : BitVec 5)
  | icdabr (m : BitVec 5)
  | res380 (m : BitVec 5)
  | res7FC
  | icdipr (m : BitVec 8)
  | resBFC
  | icdiptrPriv (m : BitVec 3)
  | icdiptrSpi (m : BitVec 8)
  | icdicfr (m : BitVec 6)
  | impD00 (m : BitVec 6)
  | resE00 (m : BitVec 6)
  | icdsgir
  | icpidr4
  | icpidr5
  | icpidr6
  | icpidr7
  | icpidr0
  | icpidr1
  | icpidr2
  | icpidr3
  | iccidr0
  | iccidr1
  | iccidr2
  | iccidr3
  | resF04 (m : BitVec 6)
  deriving DecidableEq, Repr, Inhabited

/-- The registers and register ranges of the CPU interface map (R123), with the index M of a range. -/
inductive CpuReg where
  | iccicr
  | iccpmr
  | iccbpr
  | icciar
  | icceoir
  | iccrpr
  | icchpir
  | iccabpr
  | res20 (m : BitVec 3)
  | imp40 (m : BitVec 4)
  | imp80 (m : BitVec 4)
  | impC0 (m : BitVec 2)
  | icciidr
  | resD0 (m : BitVec 2)
  | resE0 (m : BitVec 3)
  deriving DecidableEq, Repr, Inhabited

/-- One register access (R154): `rd…` a read, `wr…` a write with its data word. -/
inductive Instr where
  /-- Read ICDDCR (R161). -/
  | rdIcddcr (a : DistArgs)
  /-- Write ICDDCR (R162). -/
  | wrIcddcr (a : DistArgs) (data : Word)
  /-- Read ICDICTR (R163). -/
  | rdIcdictr (a : DistArgs)
  /-- Write ICDICTR (R164). -/
  | wrIcdictr (a : DistArgs) (data : Word)
  /-- Read ICDIIDR (R165). -/
  | rdIcdiidr (a : DistArgs)
  /-- Write ICDIIDR (R166). -/
  | wrIcdiidr (a : DistArgs) (data : Word)
  /-- Read the reserved word M of 0x00C-0x07C (R170). -/
  | rdRes00C (m : BitVec 5) (a : DistArgs)
  /-- Write the reserved word M of 0x00C-0x07C (R170). -/
  | wrRes00C (m : BitVec 5) (a : DistArgs) (data : Word)
  /-- Read ICDISR instance M (R167). -/
  | rdIcdisr (m : BitVec 5) (a : DistArgs)
  /-- Write ICDISR instance M (R168). -/
  | wrIcdisr (m : BitVec 5) (a : DistArgs) (data : Word)
  /-- Read ICDISER instance M (R191). -/
  | rdIcdiser (m : BitVec 5) (a : DistArgs)
  /-- Write ICDISER instance M (R192). -/
  | wrIcdiser (m : BitVec 5) (a : DistArgs) (data : Word)
  /-- Read ICDICER instance M (R193). -/
  | rdIcdicer (m : BitVec 5) (a : DistArgs)
  /-- Write ICDICER instance M (R194). -/
  | wrIcdicer (m : BitVec 5) (a : DistArgs) (data : Word)
  /-- Read ICDISPR instance M (R195). -/
  | rdIcdispr (m : BitVec 5) (a : DistArgs)
  /-- Write ICDISPR instance M (R196). -/
  | wrIcdispr (m : BitVec 5) (a : DistArgs) (data : Word)
  /-- Read ICDICPR instance M (R197). -/
  | rdIcdicpr (m : BitVec 5) (a : DistArgs)
  /-- Write ICDICPR instance M (R198). -/
  | wrIcdicpr (m : BitVec 5) (a : DistArgs) (data : Word)
  /-- Read ICDABR instance M (R199). -/
  | rdIcdabr (m : BitVec 5) (a : DistArgs)
  /-- Write ICDABR instance M (R200). -/
  | wrIcdabr (m : BitVec 5) (a : DistArgs) (data : Word)
  /-- Read the reserved word M of 0x380-0x3FC (R205). -/
  | rdRes380 (m : BitVec 5) (a : DistArgs)
  /-- Write the reserved word M of 0x380-0x3FC (R205). -/
  | wrRes380 (m : BitVec 5) (a : DistArgs) (data : Word)
  /-- Read the reserved word 0x7FC (R252). -/
  | rdRes7FC (a : DistArgs)
  /-- Write the reserved word 0x7FC (R252). -/
  | wrRes7FC (a : DistArgs) (data : Word)
  /-- Read ICDIPR instance M (R241). -/
  | rdIcdipr (m : BitVec 8) (a : DistArgs)
  /-- Write ICDIPR instance M (R242). -/
  | wrIcdipr (m : BitVec 8) (a : DistArgs) (data : Word)
  /-- Read the reserved word 0xBFC (R252). -/
  | rdResBFC (a : DistArgs)
  /-- Write the reserved word 0xBFC (R252). -/
  | wrResBFC (a : DistArgs) (data : Word)
  /-- Read ICDIPTR0 to ICDIPTR7 (R243). -/
  | rdIcdiptrPriv (m : BitVec 3) (a : DistArgs)
  /-- Write ICDIPTR0 to ICDIPTR7 (R244). -/
  | wrIcdiptrPriv (m : BitVec 3) (a : DistArgs) (data : Word)
  /-- Read ICDIPTR8 to ICDIPTR254 (R243). -/
  | rdIcdiptrSpi (m : BitVec 8) (a : DistArgs)
  /-- Write ICDIPTR8 to ICDIPTR254 (R244). -/
  | wrIcdiptrSpi (m : BitVec 8) (a : DistArgs) (data : Word)
  /-- Read ICDICFR instance M (R245). -/
  | rdIcdicfr (m : BitVec 6) (a : DistArgs)
  /-- Write ICDICFR instance M (R246). -/
  | wrIcdicfr (m : BitVec 6) (a : DistArgs) (data : Word)
  /-- Read the IMPLEMENTATION DEFINED word M of 0xD00-0xDFC (R300). -/
  | rdImpD00 (m : BitVec 6) (a : DistArgs)
  /-- Write the IMPLEMENTATION DEFINED word M of 0xD00-0xDFC (R300). -/
  | wrImpD00 (m : BitVec 6) (a : DistArgs) (data : Word)
  /-- Read the reserved word M of 0xE00-0xEFC (R301). -/
  | rdResE00 (m : BitVec 6) (a : DistArgs)
  /-- Write the reserved word M of 0xE00-0xEFC (R301). -/
  | wrResE00 (m : BitVec 6) (a : DistArgs) (data : Word)
  /-- Read ICDSGIR (R282). -/
  | rdIcdsgir (a : DistArgs)
  /-- Write ICDSGIR (R281). -/
  | wrIcdsgir (a : DistArgs) (data : Word)
  /-- Read ICPIDR4 (R283). -/
  | rdIcpidr4 (a : DistArgs)
  /-- Write ICPIDR4 (R294). -/
  | wrIcpidr4 (a : DistArgs) (data : Word)
  /-- Read ICPIDR5 (R284). -/
  | rdIcpidr5 (a : DistArgs)
  /-- Write ICPIDR5 (R294). -/
  | wrIcpidr5 (a : DistArgs) (data : Word)
  /-- Read ICPIDR6 (R285). -/
  | rdIcpidr6 (a : DistArgs)
  /-- Write ICPIDR6 (R294). -/
  | wrIcpidr6 (a : DistArgs) (data : Word)
  /-- Read ICPIDR7 (R286). -/
  | rdIcpidr7 (a : DistArgs)
  /-- Write ICPIDR7 (R294). -/
  | wrIcpidr7 (a : DistArgs) (data : Word)
  /-- Read ICPIDR0 (R287). -/
  | rdIcpidr0 (a : DistArgs)
  /-- Write ICPIDR0 (R294). -/
  | wrIcpidr0 (a : DistArgs) (data : Word)
  /-- Read ICPIDR1 (R288). -/
  | rdIcpidr1 (a : DistArgs)
  /-- Write ICPIDR1 (R294). -/
  | wrIcpidr1 (a : DistArgs) (data : Word)
  /-- Read ICPIDR2 (R291). -/
  | rdIcpidr2 (a : DistArgs)
  /-- Write ICPIDR2 (R294). -/
  | wrIcpidr2 (a : DistArgs) (data : Word)
  /-- Read ICPIDR3 (R289). -/
  | rdIcpidr3 (a : DistArgs)
  /-- Write ICPIDR3 (R294). -/
  | wrIcpidr3 (a : DistArgs) (data : Word)
  /-- Read ICCIDR0 (R293). -/
  | rdIccidr0 (a : DistArgs)
  /-- Write ICCIDR0 (R294). -/
  | wrIccidr0 (a : DistArgs) (data : Word)
  /-- Read ICCIDR1 (R295). -/
  | rdIccidr1 (a : DistArgs)
  /-- Write ICCIDR1 (R294). -/
  | wrIccidr1 (a : DistArgs) (data : Word)
  /-- Read ICCIDR2 (R296). -/
  | rdIccidr2 (a : DistArgs)
  /-- Write ICCIDR2 (R294). -/
  | wrIccidr2 (a : DistArgs) (data : Word)
  /-- Read ICCIDR3 (R297). -/
  | rdIccidr3 (a : DistArgs)
  /-- Write ICCIDR3 (R294). -/
  | wrIccidr3 (a : DistArgs) (data : Word)
  /-- Read the reserved word M of 0xF00-0xFFC, 0xF04 to 0xFCC (R301). -/
  | rdResF04 (m : BitVec 6) (a : DistArgs)
  /-- Write the reserved word M of 0xF00-0xFFC, 0xF04 to 0xFCC (R301). -/
  | wrResF04 (m : BitVec 6) (a : DistArgs) (data : Word)
  /-- Read ICCICR (R311). -/
  | rdIccicr (a : CpuArgs)
  /-- Write ICCICR (R312). -/
  | wrIccicr (a : CpuArgs) (data : Word)
  /-- Read ICCPMR (R313). -/
  | rdIccpmr (a : CpuArgs)
  /-- Write ICCPMR (R314). -/
  | wrIccpmr (a : CpuArgs) (data : Word)
  /-- Read ICCBPR (R315). -/
  | rdIccbpr (a : CpuArgs)
  /-- Write ICCBPR (R316). -/
  | wrIccbpr (a : CpuArgs) (data : Word)
  /-- Read ICCIAR (R317). -/
  | rdIcciar (a : CpuArgs)
  /-- Write ICCIAR (R318). -/
  | wrIcciar (a : CpuArgs) (data : Word)
  /-- Read ICCEOIR (R320). -/
  | rdIcceoir (a : CpuArgs)
  /-- Write ICCEOIR (R319). -/
  | wrIcceoir (a : CpuArgs) (data : Word)
  /-- Read ICCRPR (R321). -/
  | rdIccrpr (a : CpuArgs)
  /-- Write ICCRPR (R322). -/
  | wrIccrpr (a : CpuArgs) (data : Word)
  /-- Read ICCHPIR (R325). -/
  | rdIcchpir (a : CpuArgs)
  /-- Write ICCHPIR (R326). -/
  | wrIcchpir (a : CpuArgs) (data : Word)
  /-- Read ICCABPR (R323). -/
  | rdIccabpr (a : CpuArgs)
  /-- Write ICCABPR (R324). -/
  | wrIccabpr (a : CpuArgs) (data : Word)
  /-- Read the reserved word M of 0x20-0x3C (R329). -/
  | rdRes20 (m : BitVec 3) (a : CpuArgs)
  /-- Write the reserved word M of 0x20-0x3C (R329). -/
  | wrRes20 (m : BitVec 3) (a : CpuArgs) (data : Word)
  /-- Read the IMPLEMENTATION DEFINED word M of 0x40-0x7C (R330). -/
  | rdImp40 (m : BitVec 4) (a : CpuArgs)
  /-- Write the IMPLEMENTATION DEFINED word M of 0x40-0x7C (R330). -/
  | wrImp40 (m : BitVec 4) (a : CpuArgs) (data : Word)
  /-- Read the IMPLEMENTATION DEFINED word M of 0x80-0xBC (R330). -/
  | rdImp80 (m : BitVec 4) (a : CpuArgs)
  /-- Write the IMPLEMENTATION DEFINED word M of 0x80-0xBC (R330). -/
  | wrImp80 (m : BitVec 4) (a : CpuArgs) (data : Word)
  /-- Read the IMPLEMENTATION DEFINED word M of 0xC0-0xCF (R330). -/
  | rdImpC0 (m : BitVec 2) (a : CpuArgs)
  /-- Write the IMPLEMENTATION DEFINED word M of 0xC0-0xCF (R330). -/
  | wrImpC0 (m : BitVec 2) (a : CpuArgs) (data : Word)
  /-- Read ICCIIDR (R327). -/
  | rdIcciidr (a : CpuArgs)
  /-- Write ICCIIDR (R328). -/
  | wrIcciidr (a : CpuArgs) (data : Word)
  /-- Read the reserved word M of 0xD0-0xDC (R329). -/
  | rdResD0 (m : BitVec 2) (a : CpuArgs)
  /-- Write the reserved word M of 0xD0-0xDC (R329). -/
  | wrResD0 (m : BitVec 2) (a : CpuArgs) (data : Word)
  /-- Read the reserved word M of 0xE0-0xF8 (R329). -/
  | rdResE0 (m : BitVec 3) (a : CpuArgs)
  /-- Write the reserved word M of 0xE0-0xF8 (R329). -/
  | wrResE0 (m : BitVec 3) (a : CpuArgs) (data : Word)
  deriving DecidableEq, Repr, Inhabited

end Sys2Proof
end

