-- ==== Sys2Proof/WellFormed.lean ====
section
/-! DEFINITION. Which instructions name a register that their row of the register map has: the
index of a range must lie in the range (R122, R123, R126). Every other operand may take every value
of its type. -/

namespace Sys2Proof

/-- The index of a Distributor range lies in its range of offsets (R122). -/
def DistReg.wellFormed : DistReg → Bool
  | .icddcr => true
  | .icdictr => true
  | .icdiidr => true
  | .res00C m => decide (3 ≤ m.toNat)
  | .icdisr _ => true
  | .icdiser _ => true
  | .icdicer _ => true
  | .icdispr _ => true
  | .icdicpr _ => true
  | .icdabr _ => true
  | .res380 _ => true
  | .res7FC => true
  | .icdipr m => decide (m.toNat ≤ 254)
  | .resBFC => true
  | .icdiptrPriv _ => true
  | .icdiptrSpi m => decide (8 ≤ m.toNat ∧ m.toNat ≤ 254)
  | .icdicfr _ => true
  | .impD00 _ => true
  | .resE00 _ => true
  | .icdsgir => true
  | .icpidr4 => true
  | .icpidr5 => true
  | .icpidr6 => true
  | .icpidr7 => true
  | .icpidr0 => true
  | .icpidr1 => true
  | .icpidr2 => true
  | .icpidr3 => true
  | .iccidr0 => true
  | .iccidr1 => true
  | .iccidr2 => true
  | .iccidr3 => true
  | .resF04 m => decide (1 ≤ m.toNat ∧ m.toNat ≤ 51)

/-- The index of a CPU interface range lies in its range of offsets (R123). -/
def CpuReg.wellFormed : CpuReg → Bool
  | .iccicr => true
  | .iccpmr => true
  | .iccbpr => true
  | .icciar => true
  | .icceoir => true
  | .iccrpr => true
  | .icchpir => true
  | .iccabpr => true
  | .res20 _ => true
  | .imp40 _ => true
  | .imp80 _ => true
  | .impC0 _ => true
  | .icciidr => true
  | .resD0 _ => true
  | .resE0 m => decide (m.toNat ≤ 6)

/-- The register an access names. -/
def Instr.register : Instr → DistReg ⊕ CpuReg
  | .rdIcddcr _ => .inl .icddcr
  | .wrIcddcr _ _ => .inl .icddcr
  | .rdIcdictr _ => .inl .icdictr
  | .wrIcdictr _ _ => .inl .icdictr
  | .rdIcdiidr _ => .inl .icdiidr
  | .wrIcdiidr _ _ => .inl .icdiidr
  | .rdRes00C m _ => .inl (.res00C m)
  | .wrRes00C m _ _ => .inl (.res00C m)
  | .rdIcdisr m _ => .inl (.icdisr m)
  | .wrIcdisr m _ _ => .inl (.icdisr m)
  | .rdIcdiser m _ => .inl (.icdiser m)
  | .wrIcdiser m _ _ => .inl (.icdiser m)
  | .rdIcdicer m _ => .inl (.icdicer m)
  | .wrIcdicer m _ _ => .inl (.icdicer m)
  | .rdIcdispr m _ => .inl (.icdispr m)
  | .wrIcdispr m _ _ => .inl (.icdispr m)
  | .rdIcdicpr m _ => .inl (.icdicpr m)
  | .wrIcdicpr m _ _ => .inl (.icdicpr m)
  | .rdIcdabr m _ => .inl (.icdabr m)
  | .wrIcdabr m _ _ => .inl (.icdabr m)
  | .rdRes380 m _ => .inl (.res380 m)
  | .wrRes380 m _ _ => .inl (.res380 m)
  | .rdRes7FC _ => .inl .res7FC
  | .wrRes7FC _ _ => .inl .res7FC
  | .rdIcdipr m _ => .inl (.icdipr m)
  | .wrIcdipr m _ _ => .inl (.icdipr m)
  | .rdResBFC _ => .inl .resBFC
  | .wrResBFC _ _ => .inl .resBFC
  | .rdIcdiptrPriv m _ => .inl (.icdiptrPriv m)
  | .wrIcdiptrPriv m _ _ => .inl (.icdiptrPriv m)
  | .rdIcdiptrSpi m _ => .inl (.icdiptrSpi m)
  | .wrIcdiptrSpi m _ _ => .inl (.icdiptrSpi m)
  | .rdIcdicfr m _ => .inl (.icdicfr m)
  | .wrIcdicfr m _ _ => .inl (.icdicfr m)
  | .rdImpD00 m _ => .inl (.impD00 m)
  | .wrImpD00 m _ _ => .inl (.impD00 m)
  | .rdResE00 m _ => .inl (.resE00 m)
  | .wrResE00 m _ _ => .inl (.resE00 m)
  | .rdIcdsgir _ => .inl .icdsgir
  | .wrIcdsgir _ _ => .inl .icdsgir
  | .rdIcpidr4 _ => .inl .icpidr4
  | .wrIcpidr4 _ _ => .inl .icpidr4
  | .rdIcpidr5 _ => .inl .icpidr5
  | .wrIcpidr5 _ _ => .inl .icpidr5
  | .rdIcpidr6 _ => .inl .icpidr6
  | .wrIcpidr6 _ _ => .inl .icpidr6
  | .rdIcpidr7 _ => .inl .icpidr7
  | .wrIcpidr7 _ _ => .inl .icpidr7
  | .rdIcpidr0 _ => .inl .icpidr0
  | .wrIcpidr0 _ _ => .inl .icpidr0
  | .rdIcpidr1 _ => .inl .icpidr1
  | .wrIcpidr1 _ _ => .inl .icpidr1
  | .rdIcpidr2 _ => .inl .icpidr2
  | .wrIcpidr2 _ _ => .inl .icpidr2
  | .rdIcpidr3 _ => .inl .icpidr3
  | .wrIcpidr3 _ _ => .inl .icpidr3
  | .rdIccidr0 _ => .inl .iccidr0
  | .wrIccidr0 _ _ => .inl .iccidr0
  | .rdIccidr1 _ => .inl .iccidr1
  | .wrIccidr1 _ _ => .inl .iccidr1
  | .rdIccidr2 _ => .inl .iccidr2
  | .wrIccidr2 _ _ => .inl .iccidr2
  | .rdIccidr3 _ => .inl .iccidr3
  | .wrIccidr3 _ _ => .inl .iccidr3
  | .rdResF04 m _ => .inl (.resF04 m)
  | .wrResF04 m _ _ => .inl (.resF04 m)
  | .rdIccicr _ => .inr .iccicr
  | .wrIccicr _ _ => .inr .iccicr
  | .rdIccpmr _ => .inr .iccpmr
  | .wrIccpmr _ _ => .inr .iccpmr
  | .rdIccbpr _ => .inr .iccbpr
  | .wrIccbpr _ _ => .inr .iccbpr
  | .rdIcciar _ => .inr .icciar
  | .wrIcciar _ _ => .inr .icciar
  | .rdIcceoir _ => .inr .icceoir
  | .wrIcceoir _ _ => .inr .icceoir
  | .rdIccrpr _ => .inr .iccrpr
  | .wrIccrpr _ _ => .inr .iccrpr
  | .rdIcchpir _ => .inr .icchpir
  | .wrIcchpir _ _ => .inr .icchpir
  | .rdIccabpr _ => .inr .iccabpr
  | .wrIccabpr _ _ => .inr .iccabpr
  | .rdRes20 m _ => .inr (.res20 m)
  | .wrRes20 m _ _ => .inr (.res20 m)
  | .rdImp40 m _ => .inr (.imp40 m)
  | .wrImp40 m _ _ => .inr (.imp40 m)
  | .rdImp80 m _ => .inr (.imp80 m)
  | .wrImp80 m _ _ => .inr (.imp80 m)
  | .rdImpC0 m _ => .inr (.impC0 m)
  | .wrImpC0 m _ _ => .inr (.impC0 m)
  | .rdIcciidr _ => .inr .icciidr
  | .wrIcciidr _ _ => .inr .icciidr
  | .rdResD0 m _ => .inr (.resD0 m)
  | .wrResD0 m _ _ => .inr (.resD0 m)
  | .rdResE0 m _ => .inr (.resE0 m)
  | .wrResE0 m _ _ => .inr (.resE0 m)

/-- An instruction is well formed when its register index lies in the range of its row. -/
def Instr.wellFormed (i : Instr) : Bool :=
  match i.register with
  | .inl r => r.wellFormed
  | .inr r => r.wellFormed

end Sys2Proof
end

