-- ==== Sys2Proof/Decode.lean ====
section
/-! DEFINITION. The decoder of access words (R120, R121), total, rejecting by name, and the encoder
written from the same tables. An access word gives block, offset and direction, which select the
register, and the operands; the second word is the data of a write. -/

namespace Sys2Proof

/-- Why two words are no access of the register maps (log 11). -/
inductive DecodeError where
  /-- SZ = 3 is not used (R120). -/
  | sizeNotUsed
  /-- Bits [31:24] of the access word are not 0 (R120). -/
  | unusedBits
  /-- IFC is not 0 in a Distributor access (R120). -/
  | interfaceOnDistributor
  /-- A CPU interface offset above 0xFF is outside the defined block (R81, R121). -/
  | offsetOutsideBlock
  deriving DecidableEq, Repr

/-! ### Register maps -/

/-- The Distributor map (R122): the register at word offset `w`, that is, at byte offset 4w. -/
def distMap (w : BitVec 10) : DistReg :=
  let n := w.toNat
  if n < 0x020 then
    if n = 0x000 then .icddcr else
    if n = 0x001 then .icdictr else
    if n = 0x002 then .icdiidr else .res00C (w.setWidth 5)
  else if n < 0x040 then .icdisr (w.setWidth 5)
  else if n < 0x060 then .icdiser (w.setWidth 5)
  else if n < 0x080 then .icdicer (w.setWidth 5)
  else if n < 0x0A0 then .icdispr (w.setWidth 5)
  else if n < 0x0C0 then .icdicpr (w.setWidth 5)
  else if n < 0x0E0 then .icdabr (w.setWidth 5)
  else if n < 0x100 then .res380 (w.setWidth 5)
  else if n < 0x1FF then .icdipr (w.setWidth 8)
  else if n = 0x1FF then .res7FC
  else if n < 0x208 then .icdiptrPriv (w.setWidth 3)
  else if n < 0x2FF then .icdiptrSpi (w.setWidth 8)
  else if n = 0x2FF then .resBFC
  else if n < 0x340 then .icdicfr (w.setWidth 6)
  else if n < 0x380 then .impD00 (w.setWidth 6)
  else if n < 0x3C0 then .resE00 (w.setWidth 6)
  else if n = 0x3C0 then .icdsgir
  else if n < 0x3F4 then .resF04 (w.setWidth 6)
  else if n = 0x3F4 then .icpidr4
  else if n = 0x3F5 then .icpidr5
  else if n = 0x3F6 then .icpidr6
  else if n = 0x3F7 then .icpidr7
  else if n = 0x3F8 then .icpidr0
  else if n = 0x3F9 then .icpidr1
  else if n = 0x3FA then .icpidr2
  else if n = 0x3FB then .icpidr3
  else if n = 0x3FC then .iccidr0
  else if n = 0x3FD then .iccidr1
  else if n = 0x3FE then .iccidr2
  else .iccidr3

/-- The CPU interface map (R123): the register at word offset `w` of the 256-byte block. -/
def cpuMap (w : BitVec 6) : CpuReg :=
  let n := w.toNat
  if n = 0x00 then .iccicr
  else if n = 0x01 then .iccpmr
  else if n = 0x02 then .iccbpr
  else if n = 0x03 then .icciar
  else if n = 0x04 then .icceoir
  else if n = 0x05 then .iccrpr
  else if n = 0x06 then .icchpir
  else if n = 0x07 then .iccabpr
  else if n < 0x10 then .res20 (w.setWidth 3)
  else if n < 0x20 then .imp40 (w.setWidth 4)
  else if n < 0x30 then .imp80 (w.setWidth 4)
  else if n < 0x34 then .impC0 (w.setWidth 2)
  else if n < 0x38 then .resD0 (w.setWidth 2)
  else if n < 0x3F then .resE0 (w.setWidth 3)
  else .icciidr

/-- The instruction that accesses a Distributor register. -/
def DistReg.instr (r : DistReg) (write : Bool) (a : DistArgs) (data : Word) : Instr :=
  match r with
  | .icddcr => if write then .wrIcddcr a data else .rdIcddcr a
  | .icdictr => if write then .wrIcdictr a data else .rdIcdictr a
  | .icdiidr => if write then .wrIcdiidr a data else .rdIcdiidr a
  | .res00C m => if write then .wrRes00C m a data else .rdRes00C m a
  | .icdisr m => if write then .wrIcdisr m a data else .rdIcdisr m a
  | .icdiser m => if write then .wrIcdiser m a data else .rdIcdiser m a
  | .icdicer m => if write then .wrIcdicer m a data else .rdIcdicer m a
  | .icdispr m => if write then .wrIcdispr m a data else .rdIcdispr m a
  | .icdicpr m => if write then .wrIcdicpr m a data else .rdIcdicpr m a
  | .icdabr m => if write then .wrIcdabr m a data else .rdIcdabr m a
  | .res380 m => if write then .wrRes380 m a data else .rdRes380 m a
  | .res7FC => if write then .wrRes7FC a data else .rdRes7FC a
  | .icdipr m => if write then .wrIcdipr m a data else .rdIcdipr m a
  | .resBFC => if write then .wrResBFC a data else .rdResBFC a
  | .icdiptrPriv m => if write then .wrIcdiptrPriv m a data else .rdIcdiptrPriv m a
  | .icdiptrSpi m => if write then .wrIcdiptrSpi m a data else .rdIcdiptrSpi m a
  | .icdicfr m => if write then .wrIcdicfr m a data else .rdIcdicfr m a
  | .impD00 m => if write then .wrImpD00 m a data else .rdImpD00 m a
  | .resE00 m => if write then .wrResE00 m a data else .rdResE00 m a
  | .icdsgir => if write then .wrIcdsgir a data else .rdIcdsgir a
  | .icpidr4 => if write then .wrIcpidr4 a data else .rdIcpidr4 a
  | .icpidr5 => if write then .wrIcpidr5 a data else .rdIcpidr5 a
  | .icpidr6 => if write then .wrIcpidr6 a data else .rdIcpidr6 a
  | .icpidr7 => if write then .wrIcpidr7 a data else .rdIcpidr7 a
  | .icpidr0 => if write then .wrIcpidr0 a data else .rdIcpidr0 a
  | .icpidr1 => if write then .wrIcpidr1 a data else .rdIcpidr1 a
  | .icpidr2 => if write then .wrIcpidr2 a data else .rdIcpidr2 a
  | .icpidr3 => if write then .wrIcpidr3 a data else .rdIcpidr3 a
  | .iccidr0 => if write then .wrIccidr0 a data else .rdIccidr0 a
  | .iccidr1 => if write then .wrIccidr1 a data else .rdIccidr1 a
  | .iccidr2 => if write then .wrIccidr2 a data else .rdIccidr2 a
  | .iccidr3 => if write then .wrIccidr3 a data else .rdIccidr3 a
  | .resF04 m => if write then .wrResF04 m a data else .rdResF04 m a

/-- The instruction that accesses a CPU interface register. -/
def CpuReg.instr (r : CpuReg) (write : Bool) (a : CpuArgs) (data : Word) : Instr :=
  match r with
  | .iccicr => if write then .wrIccicr a data else .rdIccicr a
  | .iccpmr => if write then .wrIccpmr a data else .rdIccpmr a
  | .iccbpr => if write then .wrIccbpr a data else .rdIccbpr a
  | .icciar => if write then .wrIcciar a data else .rdIcciar a
  | .icceoir => if write then .wrIcceoir a data else .rdIcceoir a
  | .iccrpr => if write then .wrIccrpr a data else .rdIccrpr a
  | .icchpir => if write then .wrIcchpir a data else .rdIcchpir a
  | .iccabpr => if write then .wrIccabpr a data else .rdIccabpr a
  | .res20 m => if write then .wrRes20 m a data else .rdRes20 m a
  | .imp40 m => if write then .wrImp40 m a data else .rdImp40 m a
  | .imp80 m => if write then .wrImp80 m a data else .rdImp80 m a
  | .impC0 m => if write then .wrImpC0 m a data else .rdImpC0 m a
  | .icciidr => if write then .wrIcciidr a data else .rdIcciidr a
  | .resD0 m => if write then .wrResD0 m a data else .rdResD0 m a
  | .resE0 m => if write then .wrResE0 m a data else .rdResE0 m a

/-! ### The access word -/

/-- SZ, bits [16:15] (R120). -/
def decodeSize (sz : BitVec 2) : Option AccessSize :=
  match sz.toNat with
  | 0 => some .byte
  | 1 => some .halfword
  | 2 => some .word
  | _ => none

/-- REQ and REQV, bits [20:17] (R120): with REQV = 0 there is no connected requester. -/
def decodeRequester (valid : Bool) (req : BitVec 3) : Option Cpu :=
  if valid then some req.toFin else none

/-- The instruction of an access word and a data word (R121), or why there is none. -/
def decode (aw data : Word) : Except DecodeError Instr :=
  if aw.extractLsb' 24 8 ≠ 0#8 then .error .unusedBits else
  match decodeSize (aw.extractLsb' 15 2) with
  | none => .error .sizeNotUsed
  | some size =>
    let lane := aw.extractLsb' 0 2
    let write := aw.getLsbD 13
    let ns := aw.getLsbD 14
    let req := decodeRequester (aw.getLsbD 20) (aw.extractLsb' 17 3)
    let ifc := aw.extractLsb' 21 3
    if aw.getLsbD 12 then
      if aw.extractLsb' 8 4 ≠ 0#4 then .error .offsetOutsideBlock else
      .ok ((cpuMap (aw.extractLsb' 2 6)).instr write
        { lane := lane, size := size, ns := ns, req := req, ifc := ifc.toFin } data)
    else
      if ifc ≠ 0#3 then .error .interfaceOnDistributor else
      .ok ((distMap (aw.extractLsb' 2 10)).instr write
        { lane := lane, size := size, ns := ns, req := req } data)

/-- The instruction the decoder reads from an instruction of `nbits` bits `w`: the access word is
bits [31:0], the data word bits [63:32], and bits above `nbits` are 0. -/
def decodeTableWord (nbits w : Nat) : Option Instr :=
  let v := w % 2 ^ nbits
  match decode (BitVec.ofNat 32 v) (BitVec.ofNat 32 (v / 2 ^ 32)) with
  | .ok i => some i
  | .error _ => none

/-! ### The encoder -/

/-- The word offset of a Distributor register (R122). -/
def DistReg.offset : DistReg → BitVec 10
  | .icddcr => 0x0#10
  | .icdictr => 0x1#10
  | .icdiidr => 0x2#10
  | .res00C m => 0b00000#5 ++ m
  | .icdisr m => 0b00001#5 ++ m
  | .icdiser m => 0b00010#5 ++ m
  | .icdicer m => 0b00011#5 ++ m
  | .icdispr m => 0b00100#5 ++ m
  | .icdicpr m => 0b00101#5 ++ m
  | .icdabr m => 0b00110#5 ++ m
  | .res380 m => 0b00111#5 ++ m
  | .res7FC => 0x1ff#10
  | .icdipr m => 0b01#2 ++ m
  | .resBFC => 0x2ff#10
  | .icdiptrPriv m => 0b1000000#7 ++ m
  | .icdiptrSpi m => 0b10#2 ++ m
  | .icdicfr m => 0b1100#4 ++ m
  | .impD00 m => 0b1101#4 ++ m
  | .resE00 m => 0b1110#4 ++ m
  | .icdsgir => 0x3c0#10
  | .icpidr4 => 0x3f4#10
  | .icpidr5 => 0x3f5#10
  | .icpidr6 => 0x3f6#10
  | .icpidr7 => 0x3f7#10
  | .icpidr0 => 0x3f8#10
  | .icpidr1 => 0x3f9#10
  | .icpidr2 => 0x3fa#10
  | .icpidr3 => 0x3fb#10
  | .iccidr0 => 0x3fc#10
  | .iccidr1 => 0x3fd#10
  | .iccidr2 => 0x3fe#10
  | .iccidr3 => 0x3ff#10
  | .resF04 m => 0b1111#4 ++ m

/-- The word offset of a CPU interface register (R123). -/
def CpuReg.offset : CpuReg → BitVec 6
  | .iccicr => 0x0#6
  | .iccpmr => 0x1#6
  | .iccbpr => 0x2#6
  | .icciar => 0x3#6
  | .icceoir => 0x4#6
  | .iccrpr => 0x5#6
  | .icchpir => 0x6#6
  | .iccabpr => 0x7#6
  | .res20 m => 0b001#3 ++ m
  | .imp40 m => 0b01#2 ++ m
  | .imp80 m => 0b10#2 ++ m
  | .impC0 m => 0b1100#4 ++ m
  | .icciidr => 0x3f#6
  | .resD0 m => 0b1101#4 ++ m
  | .resE0 m => 0b111#3 ++ m

/-- SZ of an access size (R120). -/
def encodeSize : AccessSize → BitVec 2
  | .byte => 0#2
  | .halfword => 1#2
  | .word => 2#2

/-- REQV and REQ of a requester, bits [20:17] (R120). -/
def encodeRequester : Option Cpu → BitVec 4
  | none => 0#4
  | some c => 1#1 ++ (BitVec.ofFin c : BitVec 3)

/-- The access word of a Distributor access (R120). -/
def distWord (r : DistReg) (write : Bool) (a : DistArgs) : Word :=
  (0#11 ++ encodeRequester a.req ++ encodeSize a.size ++ BitVec.ofBool a.ns ++ BitVec.ofBool write
    ++ 0#1 ++ r.offset ++ a.lane : BitVec 32)

/-- The access word of a CPU interface access (R120). -/
def cpuWord (r : CpuReg) (write : Bool) (a : CpuArgs) : Word :=
  (0#8 ++ (BitVec.ofFin a.ifc : BitVec 3) ++ encodeRequester a.req ++ encodeSize a.size
    ++ BitVec.ofBool a.ns ++ BitVec.ofBool write ++ 1#1 ++ 0#4 ++ r.offset ++ a.lane : BitVec 32)

/-- The access word and the data word of an instruction; the data word of a read is 0. -/
def encode : Instr → Word × Word
  | .rdIcddcr a => (distWord .icddcr false a, 0#32)
  | .wrIcddcr a data => (distWord .icddcr true a, data)
  | .rdIcdictr a => (distWord .icdictr false a, 0#32)
  | .wrIcdictr a data => (distWord .icdictr true a, data)
  | .rdIcdiidr a => (distWord .icdiidr false a, 0#32)
  | .wrIcdiidr a data => (distWord .icdiidr true a, data)
  | .rdRes00C m a => (distWord (.res00C m) false a, 0#32)
  | .wrRes00C m a data => (distWord (.res00C m) true a, data)
  | .rdIcdisr m a => (distWord (.icdisr m) false a, 0#32)
  | .wrIcdisr m a data => (distWord (.icdisr m) true a, data)
  | .rdIcdiser m a => (distWord (.icdiser m) false a, 0#32)
  | .wrIcdiser m a data => (distWord (.icdiser m) true a, data)
  | .rdIcdicer m a => (distWord (.icdicer m) false a, 0#32)
  | .wrIcdicer m a data => (distWord (.icdicer m) true a, data)
  | .rdIcdispr m a => (distWord (.icdispr m) false a, 0#32)
  | .wrIcdispr m a data => (distWord (.icdispr m) true a, data)
  | .rdIcdicpr m a => (distWord (.icdicpr m) false a, 0#32)
  | .wrIcdicpr m a data => (distWord (.icdicpr m) true a, data)
  | .rdIcdabr m a => (distWord (.icdabr m) false a, 0#32)
  | .wrIcdabr m a data => (distWord (.icdabr m) true a, data)
  | .rdRes380 m a => (distWord (.res380 m) false a, 0#32)
  | .wrRes380 m a data => (distWord (.res380 m) true a, data)
  | .rdRes7FC a => (distWord .res7FC false a, 0#32)
  | .wrRes7FC a data => (distWord .res7FC true a, data)
  | .rdIcdipr m a => (distWord (.icdipr m) false a, 0#32)
  | .wrIcdipr m a data => (distWord (.icdipr m) true a, data)
  | .rdResBFC a => (distWord .resBFC false a, 0#32)
  | .wrResBFC a data => (distWord .resBFC true a, data)
  | .rdIcdiptrPriv m a => (distWord (.icdiptrPriv m) false a, 0#32)
  | .wrIcdiptrPriv m a data => (distWord (.icdiptrPriv m) true a, data)
  | .rdIcdiptrSpi m a => (distWord (.icdiptrSpi m) false a, 0#32)
  | .wrIcdiptrSpi m a data => (distWord (.icdiptrSpi m) true a, data)
  | .rdIcdicfr m a => (distWord (.icdicfr m) false a, 0#32)
  | .wrIcdicfr m a data => (distWord (.icdicfr m) true a, data)
  | .rdImpD00 m a => (distWord (.impD00 m) false a, 0#32)
  | .wrImpD00 m a data => (distWord (.impD00 m) true a, data)
  | .rdResE00 m a => (distWord (.resE00 m) false a, 0#32)
  | .wrResE00 m a data => (distWord (.resE00 m) true a, data)
  | .rdIcdsgir a => (distWord .icdsgir false a, 0#32)
  | .wrIcdsgir a data => (distWord .icdsgir true a, data)
  | .rdIcpidr4 a => (distWord .icpidr4 false a, 0#32)
  | .wrIcpidr4 a data => (distWord .icpidr4 true a, data)
  | .rdIcpidr5 a => (distWord .icpidr5 false a, 0#32)
  | .wrIcpidr5 a data => (distWord .icpidr5 true a, data)
  | .rdIcpidr6 a => (distWord .icpidr6 false a, 0#32)
  | .wrIcpidr6 a data => (distWord .icpidr6 true a, data)
  | .rdIcpidr7 a => (distWord .icpidr7 false a, 0#32)
  | .wrIcpidr7 a data => (distWord .icpidr7 true a, data)
  | .rdIcpidr0 a => (distWord .icpidr0 false a, 0#32)
  | .wrIcpidr0 a data => (distWord .icpidr0 true a, data)
  | .rdIcpidr1 a => (distWord .icpidr1 false a, 0#32)
  | .wrIcpidr1 a data => (distWord .icpidr1 true a, data)
  | .rdIcpidr2 a => (distWord .icpidr2 false a, 0#32)
  | .wrIcpidr2 a data => (distWord .icpidr2 true a, data)
  | .rdIcpidr3 a => (distWord .icpidr3 false a, 0#32)
  | .wrIcpidr3 a data => (distWord .icpidr3 true a, data)
  | .rdIccidr0 a => (distWord .iccidr0 false a, 0#32)
  | .wrIccidr0 a data => (distWord .iccidr0 true a, data)
  | .rdIccidr1 a => (distWord .iccidr1 false a, 0#32)
  | .wrIccidr1 a data => (distWord .iccidr1 true a, data)
  | .rdIccidr2 a => (distWord .iccidr2 false a, 0#32)
  | .wrIccidr2 a data => (distWord .iccidr2 true a, data)
  | .rdIccidr3 a => (distWord .iccidr3 false a, 0#32)
  | .wrIccidr3 a data => (distWord .iccidr3 true a, data)
  | .rdResF04 m a => (distWord (.resF04 m) false a, 0#32)
  | .wrResF04 m a data => (distWord (.resF04 m) true a, data)
  | .rdIccicr a => (cpuWord .iccicr false a, 0#32)
  | .wrIccicr a data => (cpuWord .iccicr true a, data)
  | .rdIccpmr a => (cpuWord .iccpmr false a, 0#32)
  | .wrIccpmr a data => (cpuWord .iccpmr true a, data)
  | .rdIccbpr a => (cpuWord .iccbpr false a, 0#32)
  | .wrIccbpr a data => (cpuWord .iccbpr true a, data)
  | .rdIcciar a => (cpuWord .icciar false a, 0#32)
  | .wrIcciar a data => (cpuWord .icciar true a, data)
  | .rdIcceoir a => (cpuWord .icceoir false a, 0#32)
  | .wrIcceoir a data => (cpuWord .icceoir true a, data)
  | .rdIccrpr a => (cpuWord .iccrpr false a, 0#32)
  | .wrIccrpr a data => (cpuWord .iccrpr true a, data)
  | .rdIcchpir a => (cpuWord .icchpir false a, 0#32)
  | .wrIcchpir a data => (cpuWord .icchpir true a, data)
  | .rdIccabpr a => (cpuWord .iccabpr false a, 0#32)
  | .wrIccabpr a data => (cpuWord .iccabpr true a, data)
  | .rdRes20 m a => (cpuWord (.res20 m) false a, 0#32)
  | .wrRes20 m a data => (cpuWord (.res20 m) true a, data)
  | .rdImp40 m a => (cpuWord (.imp40 m) false a, 0#32)
  | .wrImp40 m a data => (cpuWord (.imp40 m) true a, data)
  | .rdImp80 m a => (cpuWord (.imp80 m) false a, 0#32)
  | .wrImp80 m a data => (cpuWord (.imp80 m) true a, data)
  | .rdImpC0 m a => (cpuWord (.impC0 m) false a, 0#32)
  | .wrImpC0 m a data => (cpuWord (.impC0 m) true a, data)
  | .rdIcciidr a => (cpuWord .icciidr false a, 0#32)
  | .wrIcciidr a data => (cpuWord .icciidr true a, data)
  | .rdResD0 m a => (cpuWord (.resD0 m) false a, 0#32)
  | .wrResD0 m a data => (cpuWord (.resD0 m) true a, data)
  | .rdResE0 m a => (cpuWord (.resE0 m) false a, 0#32)
  | .wrResE0 m a data => (cpuWord (.resE0 m) true a, data)

end Sys2Proof
end

