-- ==== Sys2Proof/Machine/State.lean ====
section
/-! DEFINITION. The state of the GIC as plain data: the Distributor and the CPU interfaces (R20, R27
to R42), the inputs the environment drives (R33, R41), the operations still to come (R95), and the
model's own fields. `State.reset` is the machine right after reset (R54). -/

namespace Sys2Proof.Machine

/-- An interrupt of AS(c) (R36): its identifier, the source processor of an SGI (0 otherwise), and
the priority it had when it was acknowledged. -/
structure ActiveEntry where
  id : Nat
  src : Cpu
  pri : Byte
  deriving DecidableEq, Repr, Inhabited

/-- The state of one CPU interface (R36 to R40), with its part of ACKWIN (R42, log 15). -/
structure CpuInterface where
  /-- EnableS (R37), the only Enable without the Security Extensions. -/
  enableS : Bool
  /-- EnableNS (R37). -/
  enableNS : Bool
  /-- AckCtl (R37). -/
  ackCtl : Bool
  /-- FIQEn (R37). -/
  fiqEn : Bool
  /-- SBPR (R37). -/
  sbpr : Bool
  /-- PMR (R38). -/
  pmr : Byte
  /-- BPR_S (R39). -/
  bprS : BitVec 3
  /-- BPR_NS (R39). -/
  bprNS : BitVec 3
  /-- AS (R36), newest last. -/
  active : List ActiveEntry
  /-- IRQ (R40). -/
  irq : Bool
  /-- FIQ (R40). -/
  fiq : Bool
  /-- The SPIs n with this interface in ACKWIN(n) (R42). -/
  ackWindow : Bits
  deriving DecidableEq, Repr, Inhabited

/-- The state of the GIC itself, everything a reset sets and everything UNPREDICTABLE behaviour may
change. The per-interrupt variables are indexed by slot (log 13). -/
structure Gic where
  /-- DCR_S (R27). -/
  dcrS : Bool
  /-- DCR_NS (R27). -/
  dcrNS : Bool
  /-- NSB(c,n) (R28). -/
  nsb : Bits
  /-- EN(c,n) (R29). -/
  en : Bits
  /-- CFG(c,n) (R32). -/
  icfg : Bits
  /-- LATCH(c,n) (R34). -/
  latch : Bits
  /-- PRI(c,n) (R30). -/
  pri : Bytes
  /-- TGT(n) (R31). -/
  tgt : Bytes
  /-- SGIP(c,n,s) (R35), bit 128c + 8n + s. -/
  sgip : BitVec 1024
  /-- The CPU interfaces. -/
  ifcs : Vector CpuInterface 8
  /-- WQ (R391), oldest first. -/
  wq : List Instr
  /-- The value the last read access returned (log 4). -/
  readData : Word
  deriving DecidableEq, Repr, Inhabited

/-- The registers, interrupt states and outputs after UNPREDICTABLE behaviour: no promise is made
about any of them (R13, log 6). Indexed by the use counter of the state. -/
opaque unpredictableGic : Nat → Gic

/-- A read or write of the memory map as a processor or another bus master makes it (R11, R12):
MemRead[req,ns](addr, size) or MemWrite[req,ns](addr, size, data). -/
structure MemAccess where
  /-- The physical address. -/
  addr : Nat
  write : Bool
  size : AccessSize
  /-- TRUE for a Non-secure access. -/
  ns : Bool
  /-- The connected processor that made the access, if there is one. -/
  req : Option Cpu
  /-- The value written; of no meaning for a read. -/
  data : Word
  deriving DecidableEq, Repr, Inhabited

/-- One operation of the total order of R95: a register access, an input event (R380 to R387) or an
internal step of the GIC (R385, R388, R391). -/
inductive Input where
  /-- A register access: access word and data word (R120). -/
  | access (aw data : Word)
  /-- A register access given by its physical address (R11, R12, R81). -/
  | mem (m : MemAccess)
  /-- LINE_RISE(c,n) (R381). -/
  | lineRise (c : Cpu) (n : Nat)
  /-- LINE_FALL(c,n) (R382). -/
  | lineFall (c : Cpu) (n : Nat)
  /-- CFGSDISABLE_SET(v) (R383). -/
  | cfgsdisableSet (v : Bool)
  /-- LEGACY_IRQ(c,v) (R384). -/
  | legacyIrq (c : Cpu) (v : Bool)
  /-- LEGACY_FIQ(c,v) (R384). -/
  | legacyFiq (c : Cpu) (v : Bool)
  /-- RESET (R387). -/
  | reset
  /-- EVALUATE(c) (R385). -/
  | evaluate (c : Cpu)
  /-- CLOSE_ACK_WINDOW(n) (R388). -/
  | closeAckWindow (n : Nat)
  /-- APPLY_WRITE (R391). -/
  | applyWrite
  deriving DecidableEq, Repr, Inhabited

/-- The whole machine. -/
structure State where
  /-- The parameters of the implementation (R8); no step changes them (log 1). -/
  cfg : Config
  gic : Gic
  /-- LINE(c,n) (R33), an input. -/
  line : Bits
  /-- CFGSDISABLE (R41), an input. -/
  cfgsdisable : Bool
  /-- LegacyIRQ(c) (R41), an input of each interface. -/
  legacyIrq : BitVec 8
  /-- LegacyFIQ(c) (R41), an input of each interface. -/
  legacyFiq : BitVec 8
  /-- The operations still to come, oldest first (R95, log 2). -/
  inputs : List Input
  /-- UNPRED (R43). -/
  unpred : Bool
  /-- How many open values have been drawn so far: the index of the free values (log 5). -/
  tick : Nat
  deriving DecidableEq, Repr, Inhabited

/-- No access of the GIC ends in a fault, an abort or a bus error (R91), so there is no fault reason:
the type is empty (log 23). -/
inductive Fault where
  deriving DecidableEq, Repr

/-- Why the model takes an operation of the queue for none of the GIC's operations. -/
inductive Refusal where
  /-- Raised by no meaning: the mark of an instruction that has none. Safe: the model stops. -/
  | notModelled (mnemonic : String)
  /-- Raised by `step` for an access word that names no access (R120, R121). Safe: the model stops. -/
  | undecodable (why : DecodeError)
  /-- Raised by an access whose requester is a processor the system does not have (R12, R100). Safe. -/
  | noSuchRequester
  /-- Raised by an access to a CPU interface the GIC does not have (R12, R101). Safe. -/
  | noSuchInterface
  /-- Raised by an access to the interface of another processor where CROSS_CPU_ACCESS is FALSE: the
  model "refuses (does not accept as input)" it (R101). Safe. -/
  | crossCpuAccess
  /-- Raised by a read or write of the memory map whose address is in no register block of the GIC:
  such offsets "are not GIC accesses" (R81, D38); or in the blocks of several interfaces, none of them
  the requester's own (log 22). Safe. -/
  | notGicAddress
  /-- Raised by an event of a signal the system does not have: the line of an interrupt that is not
  implemented or no peripheral interrupt (R381), or a legacy input or interface that is absent
  (R384, R385, R388). Safe. -/
  | noSuchInput
  deriving DecidableEq, Repr

/-- The outcome of one operation. -/
abbrev Result : Type := Host.Outcome State Fault Refusal

/-! ### Reset -/

/-- The slots lo to hi. -/
def slotRange (lo hi : Nat) : Bits := BitVec.ofNat 1244 (2 ^ (hi + 1) - 2 ^ lo)

/-- A CPU interface after reset (R54): all controls 0, the mask 0x00, both binary points at the
minimum, nothing active, no request asserted. -/
def CpuInterface.reset (cfg : Config) : CpuInterface :=
  { enableS := false
    enableNS := false
    ackCtl := false
    fiqEn := false
    sbpr := false
    pmr := 0#8
    bprS := cfg.minBinaryPoint.setWidth 3
    bprNS := cfg.minBinaryPoint.setWidth 3
    active := []
    irq := false
    fiq := false
    ackWindow := 0#1244 }

/-- The GIC after reset (R54). The enables and trigger modes take EN_RESET and CFG_RESET; the
security bits of the private interrupts (slots 0 to 255) take ICDISR0_RESET, those of the SPIs are 0
(R169). -/
def Gic.reset (cfg : Config) : Gic :=
  { dcrS := false
    dcrNS := false
    nsb := cfg.icdisr0Reset &&& slotRange 0 255
    en := cfg.enReset
    icfg := cfg.cfgReset
    latch := 0#1244
    pri := {}
    tgt := {}
    sgip := 0#1024
    ifcs := Vector.replicate 8 (CpuInterface.reset cfg)
    wq := []
    readData := 0#32 }

/-- The implementation `State.reset` stands for (log 1): configuration CFG-SM of the spec's test
vectors (two processors, the Security Extensions, SGIs 0-15, PPIs 27-31 and SPIs 32-47 and 56-63),
with every OPEN parameter at its recommended default, base addresses of this model's own (log 22),
double acknowledge allowed and access to the other interface allowed, and the identification values of
an ARM implementation (R151, R292). -/
def referenceConfig : Config :=
  { distBase := 0x1000
    cpuBase := Vector.replicate 8 0x2000
    cpuNumber := 1#3
    secext := true
    itLines := 1#5
    impl := slotRange 0 15 ||| slotRange 27 31 ||| slotRange 32 47 ||| slotRange 59 63
      ||| slotRange 256 271 ||| slotRange 280 287
    permEn := 0#1244
    sgiEnableMode := .permanent
    enReset := slotRange 0 15 ||| slotRange 32 47
    lspi := 2#5
    pMask := .f8
    minBinaryPoint := 0#2
    fixedPriority := []
    alwaysSecure := 0#1244
    alwaysNs := 0#1244
    icdisr0Reset := 0#1244
    accessSec := Vector.replicate 8 .both
    ppiProgrammable := 0#1244
    cfgReset := 0#1244
    spiTargetFixed := []
    passThrough := 0#8
    activePriorityTracks := false
    halfword := .unsupported
    crossCpuAccess := true
    ids :=
      { distProductId := 0#8
        distVariant := 0#4
        distRevision := 0#4
        distContinuation := 4#4
        distIdentity := 0x3B#7
        cpuProductId := 0x390#12
        cpuRevision := 0#4
        cpuContinuation := 4#4
        cpuIdentity := 0x3B#7 }
    idRegs :=
      { icpidr4 := 0x04#32
        icpidr5 := 0x00#32
        icpidr6 := 0x00#32
        icpidr7 := 0x00#32
        icpidr0 := 0x90#32
        icpidr1 := 0xB3#32
        icpidr2High := 0#24
        icpidr2Low := 0xB#4
        icpidr3 := 0x00#32
        iccidr0 := 0x0D#32
        iccidr1 := 0xF0#32
        iccidr2 := 0x05#32
        iccidr3 := 0xB1#32 }
    impdefRegs := .razWi
    distEnablePolicy := .bySecurity
    edgeHighAtEnable := .noEdge
    spiDoubleAck := .allowed
    eoiOrderViolation := .unpredictable
    hpirPriorityFilter := false
    distWriteLatency := .immediate }

/-- A GIC of configuration `cfg` right after reset, with every input LOW (log 7) and no operation
waiting (log 2). -/
def State.resetWith (cfg : Config) : State :=
  { cfg := cfg
    gic := Gic.reset cfg
    line := 0#1244
    cfgsdisable := false
    legacyIrq := 0#8
    legacyFiq := 0#8
    inputs := []
    unpred := false
    tick := 0 }

/-- The machine right after reset (R54). -/
def State.reset : State := State.resetWith referenceConfig

end Sys2Proof.Machine
end

