-- ==== Sys2Proof/Machine/Params.lean ====
section
/-! DEFINITION. The parameters of R8 as functions of a configuration, the constraints of R9, and the
read-only register values they determine (R50 to R52). -/

namespace Sys2Proof.Machine

/-! ### Slots and bits -/

/-- The slot of interrupt (c,n): a private interrupt (n < 32) has one slot for each interface, an SPI
one slot whatever c is (R25, log 13). No interrupt above 1019 has a slot. -/
def slot (c : Cpu) (n : Nat) : Nat :=
  if n < 32 then 32 * c.val + n else n + 224

/-- The bit vector whose bit i is `f i`. -/
def bitsOf : (w : Nat) → (Nat → Bool) → BitVec w
  | 0, _ => 0#0
  | w + 1, f => BitVec.cons (f w) (bitsOf w f)

/-- `b` with bit i set to `v`. -/
def putBit {w : Nat} (b : BitVec w) (i : Nat) (v : Bool) : BitVec w :=
  if v then b ||| BitVec.twoPow w i else b &&& ~~~ BitVec.twoPow w i

/-- Byte i of `b`, 0 where there is none. -/
def getByte (b : Bytes) (i : Nat) : Byte := b.toList[i]?.getD 0#8

/-- `b` with byte i set to `v`, unchanged where there is no byte i. -/
def putByte (b : Bytes) (i : Nat) (v : Byte) : Bytes :=
  { toList := b.toList.set i v, size := List.length_set.trans b.size }

/-- The eight interfaces, as one vector. -/
def perCpu {α : Type} (f : Cpu → α) : Vector α 8 :=
  #v[f 0, f 1, f 2, f 3, f 4, f 5, f 6, f 7]

/-- Some element of a list, `k` deciding which where there are several; none of the empty list. -/
def choose {α : Type} (k : Nat) (l : List α) : Option α :=
  match l with
  | [] => none
  | [x] => some x
  | x :: y :: r => (x :: y :: r)[k % (r.length + 2)]?

/-! ### Parameters -/

/-- NCPU, 1 to 8 (R8). -/
def ncpu (cfg : Config) : Nat := cfg.cpuNumber.toNat + 1

/-- Interface c is one of the NCPU that exist (R20). -/
def cpuExists (cfg : Config) (c : Cpu) : Bool := decide (c.val < ncpu cfg)

/-- MAXID (R8): the identifiers are 0 to MAXID-1. -/
def maxId (cfg : Config) : Nat := min (32 * (cfg.itLines.toNat + 1)) 1020

/-- Impl(c,n) (R8, R26). A private interrupt exists only for an interface that exists. -/
def implemented (cfg : Config) (c : Cpu) (n : Nat) : Bool :=
  decide (n < maxId cfg) && (decide (32 ≤ n) || cpuExists cfg c) && cfg.impl.getLsbD (slot c n)

/-- EN(c,n) is constantly 1: PERM_EN(c,n), or an SGI where SGIs are permanent (R29). -/
def permanentlyEnabled (cfg : Config) (c : Cpu) (n : Nat) : Bool :=
  cfg.permEn.getLsbD (slot c n) ||
    (decide (n < 16) && decide (cfg.sgiEnableMode = .permanent))

/-- LSPI, 0 without the Security Extensions (R9(a)). -/
def lspi (cfg : Config) : Nat := if cfg.secext then cfg.lspi.toNat else 0

/-- P_MASK (R8). -/
def pMask (cfg : Config) : Byte :=
  match cfg.pMask with
  | .f0 => 0xF0#8
  | .f8 => 0xF8#8
  | .fc => 0xFC#8
  | .fe => 0xFE#8
  | .ff => 0xFF#8

/-- MINIMUM_BINARY_POINT, 0 to 3 (R8). -/
def minimumBinaryPoint (cfg : Config) : Nat := cfg.minBinaryPoint.toNat

/-- FIXED_PRIORITY(c,n), where it is defined (R8). -/
def fixedPriority (cfg : Config) (c : Cpu) (n : Nat) : Option Byte :=
  (cfg.fixedPriority.lookup (slot c n)).map (· &&& pMask cfg)

/-- ALWAYS_SECURE(c,n) (R8), empty without the Security Extensions (R9(a)). -/
def alwaysSecure (cfg : Config) (c : Cpu) (n : Nat) : Bool :=
  cfg.secext && cfg.alwaysSecure.getLsbD (slot c n)

/-- ALWAYS_NS(c,n) (R8), empty without the Security Extensions (R9(a)). -/
def alwaysNs (cfg : Config) (c : Cpu) (n : Nat) : Bool :=
  cfg.secext && cfg.alwaysNs.getLsbD (slot c n)

/-- Int_config[1] of the interrupt can be written: an SPI, or a PPI with PPI_CFG_PROGRAMMABLE(c,n)
(R246). -/
def cfgProgrammable (cfg : Config) (c : Cpu) (n : Nat) : Bool :=
  decide (32 ≤ n) || (decide (16 ≤ n) && cfg.ppiProgrammable.getLsbD (slot c n))

/-- The mask of the CPU targets bits that exist, (1 << NCPU) - 1 (R244). -/
def targetMask (cfg : Config) : Byte := BitVec.ofNat 8 (2 ^ ncpu cfg - 1)

/-- SPI_TARGET_FIXED(n), where it is defined (R8), without the bits of absent interfaces (R31). -/
def spiTargetFixed (cfg : Config) (n : Nat) : Option Byte :=
  (cfg.spiTargetFixed.lookup n).map (· &&& targetMask cfg)

/-- PASS_THROUGH(c) (R8). -/
def passThrough (cfg : Config) (c : Cpu) : Bool := cfg.passThrough.getLsbD c.val

/-- SPI_DOUBLE_ACK = `allowed` (R8). -/
def doubleAckAllowed (cfg : Config) : Bool := decide (cfg.spiDoubleAck = .allowed)

/-- DIST_WRITE_LATENCY = `delayed` (R8). -/
def writesDelayed (cfg : Config) : Bool := decide (cfg.distWriteLatency = .delayed)

/-- The constraints of R9 that the type `Config` does not already impose: with the Security Extensions
P_MASK is not 0xF0, without them LSPI is 0 and ALWAYS_SECURE and ALWAYS_NS are empty (a); nothing is
both always Secure and always Non-secure, PERM_EN is within Impl (R8), and ICDISR0_RESET has a 1 only
for an implemented interrupt of a Non-secure processor (e). -/
def configWf (cfg : Config) : Bool :=
  (!cfg.secext || decide (cfg.pMask ≠ .f0))
    && (cfg.secext || (decide (cfg.lspi = 0#5) && decide (cfg.alwaysSecure = 0#1244)
      && decide (cfg.alwaysNs = 0#1244)))
    && decide (cfg.alwaysSecure &&& cfg.alwaysNs = 0#1244)
    && decide (cfg.permEn &&& ~~~ cfg.impl = 0#1244)
    && ((List.finRange 8).all fun c => (List.range 32).all fun n =>
        !cfg.icdisr0Reset.getLsbD (slot c n)
          || (implemented cfg c n && decide (cfg.accessSec[c] = .nonsecureOnly)))

/-! ### Base addresses -/

/-- The size in bytes of the Distributor block (D38). -/
abbrev distBlockSize : Nat := 0x1000

/-- The size in bytes of a CPU interface block (D38). -/
abbrev cpuBlockSize : Nat := 0x100

/-- CBASE(c) (R8). -/
def cpuBase (cfg : Config) (c : Cpu) : Nat := cfg.cpuBase[c]

/-- The address lies in the Distributor block, at DBASE to DBASE + 0xFFF (R80, D38). -/
def inDistBlock (cfg : Config) (addr : Nat) : Bool :=
  decide (cfg.distBase ≤ addr) && decide (addr < cfg.distBase + distBlockSize)

/-- The address lies in the block of interface c, which exists, at CBASE(c) to CBASE(c) + 0xFF (R80,
D38). -/
def inCpuBlock (cfg : Config) (c : Cpu) (addr : Nat) : Bool :=
  cpuExists cfg c && decide (cpuBase cfg c ≤ addr) && decide (addr < cpuBase cfg c + cpuBlockSize)

/-- A memory map in which an address means one register for each requester: no CPU interface block
meets the Distributor block, and two CPU interface blocks are the same, as the recommendation of R81
has it, or disjoint (log 22). -/
def memoryMapWf (cfg : Config) : Bool :=
  (List.finRange 8).all fun c => !cpuExists cfg c ||
    ((decide (cpuBase cfg c + cpuBlockSize ≤ cfg.distBase)
        || decide (cfg.distBase + distBlockSize ≤ cpuBase cfg c))
      && (List.finRange 8).all fun d => !cpuExists cfg d
        || decide (cpuBase cfg c = cpuBase cfg d)
        || decide (cpuBase cfg c + cpuBlockSize ≤ cpuBase cfg d)
        || decide (cpuBase cfg d + cpuBlockSize ≤ cpuBase cfg c))

/-! ### Constants -/

/-- ICDICTR_VALUE (R50): LSPI, SecurityExtn, CPUNumber, ITLinesNumber. -/
def icdictrValue (cfg : Config) : Word :=
  0#16 ++ BitVec.ofNat 5 (lspi cfg) ++ BitVec.ofBool cfg.secext ++ 0#2 ++ cfg.cpuNumber
    ++ cfg.itLines

/-- ICDIIDR_VALUE (R51, R131). -/
def icdiidrValue (cfg : Config) : Word :=
  cfg.ids.distProductId ++ 0#4 ++ cfg.ids.distVariant ++ cfg.ids.distRevision
    ++ cfg.ids.distContinuation ++ 0#1 ++ cfg.ids.distIdentity

/-- ICCIIDR_VALUE (R51, R151), with architecture version 0x1. -/
def icciidrValue (cfg : Config) : Word :=
  cfg.ids.cpuProductId ++ 1#4 ++ cfg.ids.cpuRevision ++ cfg.ids.cpuContinuation ++ 0#1
    ++ cfg.ids.cpuIdentity

/-- IDREG(0xFE8), ICPIDR2, with ArchRev = 0x1 in bits [7:4] (R52, R143). -/
def icpidr2Value (cfg : Config) : Word :=
  cfg.idRegs.icpidr2High ++ 1#4 ++ cfg.idRegs.icpidr2Low

end Sys2Proof.Machine
end

