-- ==== Sys2Proof/Machine/Fields.lean ====
section
/-! DEFINITION. The setters of the state, one for each field the meanings write, and the accessors of
the per-interrupt variables of R28 to R35, which give the constants where the implementation fixes a
value. Their laws are in Sys2Proof/Laws/State.lean. -/

namespace Sys2Proof.Machine

/-! ### Setters -/

/-- The state with its GIC replaced. -/
def State.withGic (s : State) (g : Gic) : State := { s with gic := g }

/-- The state with interface c replaced. -/
def State.withIfc (s : State) (c : Cpu) (i : CpuInterface) : State :=
  { s with gic := { s.gic with ifcs := s.gic.ifcs.set c i } }

/-- The state of interface c. -/
def State.ifc (s : State) (c : Cpu) : CpuInterface := s.gic.ifcs[c]

/-- DCR_S <- v. -/
def State.setDcrS (s : State) (v : Bool) : State := { s with gic := { s.gic with dcrS := v } }

/-- DCR_NS <- v. -/
def State.setDcrNS (s : State) (v : Bool) : State := { s with gic := { s.gic with dcrNS := v } }

/-- NSB <- v. -/
def State.setNsb (s : State) (v : Bits) : State := { s with gic := { s.gic with nsb := v } }

/-- EN <- v. -/
def State.setEn (s : State) (v : Bits) : State := { s with gic := { s.gic with en := v } }

/-- CFG <- v. -/
def State.setIcfg (s : State) (v : Bits) : State := { s with gic := { s.gic with icfg := v } }

/-- LATCH <- v. -/
def State.setLatch (s : State) (v : Bits) : State := { s with gic := { s.gic with latch := v } }

/-- PRI <- v. -/
def State.setPri (s : State) (v : Bytes) : State :=
  { s with gic := { s.gic with pri := v } }

/-- TGT <- v. -/
def State.setTgt (s : State) (v : Bytes) : State :=
  { s with gic := { s.gic with tgt := v } }

/-- SGIP <- v. -/
def State.setSgip (s : State) (v : BitVec 1024) : State :=
  { s with gic := { s.gic with sgip := v } }

/-- The interfaces <- v. -/
def State.setIfcs (s : State) (v : Vector CpuInterface 8) : State :=
  { s with gic := { s.gic with ifcs := v } }

/-- WQ <- v. -/
def State.setWq (s : State) (v : List Instr) : State := { s with gic := { s.gic with wq := v } }

/-- The result of a read access. -/
def State.respond (s : State) (v : Word) : State :=
  { s with gic := { s.gic with readData := v } }

/-- LINE <- v. -/
def State.setLine (s : State) (v : Bits) : State := { s with line := v }

/-- The state after one more open value has been drawn (log 5). -/
def State.drawn (s : State) : State := { s with tick := s.tick + 1 }

/-! ### Variables of an interrupt -/

/-- NSB(c,n) (R28), constant where the implementation fixes the security. -/
def nsbOf (s : State) (c : Cpu) (n : Nat) : Bool :=
  if alwaysSecure s.cfg c n then false
  else if alwaysNs s.cfg c n then true
  else s.gic.nsb.getLsbD (slot c n)

/-- EN(c,n) (R29), constantly 1 where permanent. -/
def enOf (s : State) (c : Cpu) (n : Nat) : Bool :=
  permanentlyEnabled s.cfg c n || s.gic.en.getLsbD (slot c n)

/-- PRI(c,n) (R30), the Secure view, constant where fixed. -/
def priOf (s : State) (c : Cpu) (n : Nat) : Byte :=
  match fixedPriority s.cfg c n with
  | some v => v
  | none => getByte s.gic.pri (slot c n)

/-- TGT(n) (R31), constant where fixed. -/
def tgtOf (s : State) (n : Nat) : Byte :=
  match spiTargetFixed s.cfg n with
  | some v => v
  | none => getByte s.gic.tgt (n + 224)

/-- CFG(c,n) = 1 (R32), constant for a PPI that is not programmable: Edge(c,n). -/
def edgeOf (s : State) (c : Cpu) (n : Nat) : Bool :=
  if cfgProgrammable s.cfg c n then s.gic.icfg.getLsbD (slot c n)
  else s.cfg.cfgReset.getLsbD (slot c n)

/-- LATCH(c,n) (R34). -/
def latchOf (s : State) (c : Cpu) (n : Nat) : Bool := s.gic.latch.getLsbD (slot c n)

/-- LINE(c,n) (R33). -/
def lineOf (s : State) (c : Cpu) (n : Nat) : Bool := s.line.getLsbD (slot c n)

/-- The bit of SGIP(c,n,s) (R35). -/
def sgipIndex (c : Cpu) (n : Nat) (src : Cpu) : Nat := 128 * c.val + 8 * n + src.val

/-- SGIP(c,n,s) (R35), n in 0 to 15 and s one of the processors that exist. -/
def sgipOf (s : State) (c : Cpu) (n : Nat) (src : Cpu) : Bool :=
  decide (n < 16) && cpuExists s.cfg src && s.gic.sgip.getLsbD (sgipIndex c n src)

end Sys2Proof.Machine
end

