-- ==== Sys2Proof/Machine/Flags.lean ====
section
/-! DEFINITION. The status predicates of the GIC. It has no flags or condition codes (R23); what other
machines keep in flags are here the derived predicates of R44 to R48 and the access filters of R104,
R105 and R107. -/

namespace Sys2Proof.Machine

/-- IsSecureInt(c,n) (R44). -/
def isSecureInt (s : State) (c : Cpu) (n : Nat) : Bool := !s.cfg.secext || !nsbOf s c n

/-- FwdEn(c,n) (R45): the Distributor enable that applies to the interrupt. -/
def fwdEn (s : State) (c : Cpu) (n : Nat) : Bool :=
  if !s.cfg.secext then s.gic.dcrS
  else match s.cfg.distEnablePolicy with
    | .bySecurity => if isSecureInt s c n then s.gic.dcrS else s.gic.dcrNS
    | .either => s.gic.dcrS || s.gic.dcrNS
    | .secureOnly => s.gic.dcrS

/-- Pend(c,n) of a peripheral interrupt (R46, R201): latched, or level-sensitive with the line HIGH
and the Distributor enabled for it. -/
def pendPeripheral (s : State) (c : Cpu) (n : Nat) : Bool :=
  latchOf s c n || (!edgeOf s c n && lineOf s c n && fwdEn s c n)

/-- Pend(c,n) (R46). For an SGI: pending from at least one source. -/
def pend (s : State) (c : Cpu) (n : Nat) : Bool :=
  if n < 16 then (List.finRange 8).any fun src => sgipOf s c n src else pendPeripheral s c n

/-- The entry of AS(c) with identifier n, if there is one (R36). -/
def activeEntry (s : State) (c : Cpu) (n : Nat) : Option ActiveEntry :=
  (s.ifc c).active.find? fun e => decide (e.id = n)

/-- Act(c,n) (R47). -/
def act (s : State) (c : Cpu) (n : Nat) : Bool := (s.ifc c).active.any fun e => decide (e.id = n)

/-- ActAny(n) (R47). -/
def actAny (s : State) (n : Nat) : Bool := (List.finRange 8).any fun c => act s c n

/-- The states of an interrupt (R15, R48, R413). -/
inductive IntState where
  | inactive
  | pending
  | active
  | activeAndPending
  deriving DecidableEq, Repr

/-- State(c,n) (R48). -/
def intState (s : State) (c : Cpu) (n : Nat) : IntState :=
  match pend s c n, act s c n with
  | false, false => .inactive
  | true, false => .pending
  | false, true => .active
  | true, true => .activeAndPending

/-- State of SGI(c,n,src) (R48): by its own pending bit and an active entry of that source. -/
def sgiState (s : State) (c : Cpu) (n : Nat) (src : Cpu) : IntState :=
  match sgipOf s c n src,
    (s.ifc c).active.any (fun e => decide (e.id = n) && decide (e.src = src)) with
  | false, false => .inactive
  | true, false => .pending
  | false, true => .active
  | true, true => .activeAndPending

/-- LockActive (R107). -/
def lockActive (s : State) : Bool := s.cfg.secext && decide (0 < lspi s.cfg) && s.cfgsdisable

/-- Locked(n) (R107): a lockable SPI that is Secure, while CFGSDISABLE is HIGH. -/
def locked (s : State) (n : Nat) : Bool :=
  lockActive s && decide (32 ≤ n) && decide (n ≤ 31 + lspi s.cfg) && isSecureInt s 0 n

/-- The interface whose copy of interrupt n a requester reaches: its own for a private interrupt, the
one shared copy of an SPI, none for a private interrupt without a connected requester (R53, R100). -/
def bank (req : Option Cpu) (n : Nat) : Option Cpu := if n < 32 then req else some 0

/-- Visible(c,n,ns) (R104). -/
def visible (s : State) (c : Cpu) (n : Nat) (ns : Bool) : Bool :=
  implemented s.cfg c n && !(s.cfg.secext && ns && isSecureInt s c n)

/-- Writable(c,n,ns) (R105). -/
def writable (s : State) (c : Cpu) (n : Nat) (ns : Bool) : Bool :=
  visible s c n ns && !locked s n

/-- A field of interrupt n that a requester reads, 0 where it is not Visible (R104). -/
def readField {α : Type} (s : State) (req : Option Cpu) (ns : Bool) (n : Nat) (zero : α)
    (value : Cpu → α) : α :=
  match bank req n with
  | none => zero
  | some c => if visible s c n ns then value c else zero

/-- A requester's write to a field of interrupt n takes effect (R105), under a further condition of
the field. -/
def writesField (s : State) (req : Option Cpu) (ns : Bool) (n : Nat) (further : Cpu → Bool) : Bool :=
  match bank req n with
  | none => false
  | some c => writable s c n ns && further c

end Sys2Proof.Machine
end

