-- ==== Sys2Proof/Machine/Priority.lean ====
section
/-! DEFINITION. Prioritization: the priority views (R249), the group mask (R426, R427), the forwarding
candidates (R423), the highest priority pending interrupt (R424), sufficient priority (R427) and the
values the outputs take (R428). -/

namespace Sys2Proof.Machine

/-! ### Views of a priority value -/

/-- NSViewWrite(v) (R249): what a Non-secure write of v stores. -/
def nsViewWrite (cfg : Config) (v : Byte) : Byte := (0x80#8 ||| (v >>> 1)) &&& pMask cfg

/-- NSViewRead(p) (R249): what a Non-secure read of a stored p returns. -/
def nsViewRead (cfg : Config) (p : Byte) : Byte := (p &&& pMask cfg) <<< 1

/-- SViewWrite(v) (R249). -/
def sViewWrite (cfg : Config) (v : Byte) : Byte := v &&& pMask cfg

/-- The Non-secure view of ICCPMR and ICCRPR (R313, R321, R447): 0 while bit [7] is 0. -/
def nsViewOfRegister (cfg : Config) (v : Byte) : Byte :=
  if v.getLsbD 7 then nsViewRead cfg v else 0#8

/-! ### Comparison and masks -/

/-- PriorityIsHigher(pr1, pr2) (R425): strictly lower in number. -/
def priorityIsHigher (pr1 pr2 : Byte) : Bool := decide (pr1.toNat < pr2.toNat)

/-- GIC_PriorityMask(n, NS_mask) (R426). -/
def gicPriorityMask (cfg : Config) (n : Nat) (nsMask : Bool) : Byte :=
  let n := if n < minimumBinaryPoint cfg then minimumBinaryPoint cfg else n
  let n := if nsMask then n else n + 1
  0xFF#8 <<< n

/-- The priority of an active interrupt (R49, R248). -/
def entryPriority (s : State) (c : Cpu) (e : ActiveEntry) : Byte :=
  if s.cfg.activePriorityTracks then priOf s c e.id else e.pri

/-- The smaller of two priorities, that is, the higher one. -/
def minPriority (a b : Byte) : Byte := if b.toNat < a.toNat then b else a

/-- RPR(c) (R49), where something is active on c. -/
def runningPriority (s : State) (c : Cpu) : Option Byte :=
  match (s.ifc c).active with
  | [] => none
  | e :: rest => some (rest.foldl (fun m e' => minPriority m (entryPriority s c e'))
      (entryPriority s c e))

/-- GroupMask(c,n) (R427). -/
def groupMask (s : State) (c : Cpu) (n : Nat) : Byte :=
  if !s.cfg.secext then gicPriorityMask s.cfg (s.ifc c).bprS.toNat false
  else if isSecureInt s c n || (s.ifc c).sbpr then gicPriorityMask s.cfg (s.ifc c).bprS.toNat false
  else gicPriorityMask s.cfg (s.ifc c).bprNS.toNat true

/-- SufficientPriority(c,n) (R427). -/
def sufficientPriority (s : State) (c : Cpu) (n : Nat) : Bool :=
  priorityIsHigher (priOf s c n) (s.ifc c).pmr &&
    match runningPriority s c with
    | none => true
    | some rp => priorityIsHigher (priOf s c n) (rp &&& groupMask s c n)

/-- IfcEnabledFor(c,n) (R427). -/
def ifcEnabledFor (s : State) (c : Cpu) (n : Nat) : Bool :=
  if !s.cfg.secext then (s.ifc c).enableS
  else if isSecureInt s c n then (s.ifc c).enableS else (s.ifc c).enableNS

/-- Signalable(c,n) (R427). -/
def signalable (s : State) (c : Cpu) (n : Nat) : Bool :=
  sufficientPriority s c n && ifcEnabledFor s c n

/-! ### Candidates and the highest priority pending interrupt -/

/-- An interrupt instance as an interface sees it: an identifier, and the source of an SGI (0 for any
other interrupt). -/
structure IntRef where
  id : Nat
  src : Cpu
  deriving DecidableEq, Repr

/-- Targeted(c,n) (R423); in a uniprocessor every SPI targets interface 0. -/
def targeted (s : State) (c : Cpu) (n : Nat) : Bool :=
  if n < 32 then true
  else if ncpu s.cfg = 1 then true
  else (tgtOf s n).getLsbD c.val

/-- Cand(c,n) (R423). -/
def cand (s : State) (c : Cpu) (n : Nat) : Bool :=
  decide (16 ≤ n) && decide (n ≤ 1019) && implemented s.cfg c n && enOf s c n && fwdEn s c n
    && pendPeripheral s c n && targeted s c n
    && (if 32 ≤ n then !actAny s n else !act s c n)

/-- CandSGI(c,n,src) (R423). -/
def candSgi (s : State) (c : Cpu) (n : Nat) (src : Cpu) : Bool :=
  decide (n ≤ 15) && implemented s.cfg c n && enOf s c n && fwdEn s c n && sgipOf s c n src
    && !act s c n

/-- Membership of Cands(c) (R423). -/
def isCand (s : State) (c : Cpu) (p : IntRef) : Bool :=
  if p.id < 16 then candSgi s c p.id p.src else decide (p.src = 0) && cand s c p.id

/-- Every instance a GIC with identifiers below MAXID can have on one interface. -/
def instances (cfg : Config) : List IntRef :=
  ((List.range 16).flatMap fun n => (List.finRange 8).map fun src => { id := n, src := src })
    ++ ((List.range (maxId cfg - 16)).map fun k => { id := k + 16, src := 0 })

/-- Cands(c) (R423). -/
def cands (s : State) (c : Cpu) : List IntRef := (instances s.cfg).filter fun p => isCand s c p

/-- The candidates of the smallest priority value: the possible values of HPPI(c) (R424). -/
def topCands (s : State) (c : Cpu) : List IntRef :=
  (cands s c).filter fun p =>
    (cands s c).all fun q => decide ((priOf s c p.id).toNat ≤ (priOf s c q.id).toNat)

/-- HPPI(c) (R424): one of them, TIE_BREAK deciding anew at each use. -/
def hppi (s : State) (c : Cpu) : Option IntRef := choose (Config.tieBreak s.tick) (topCands s c)

/-- Next(c) (R428): the values of IRQ(c) and FIQ(c). -/
def nextOutputs (s : State) (c : Cpu) : Bool × Bool :=
  match hppi s c with
  | none => (false, false)
  | some h =>
    if !signalable s c h.id then (false, false)
    else if s.cfg.secext && isSecureInt s c h.id && (s.ifc c).fiqEn then (false, true)
    else (true, false)

end Sys2Proof.Machine
end

