-- ==== Sys2Proof/Machine/Operands.lean ====
section
/-! DEFINITION. The operands of an access: who makes it and to which interface (R100, R101), its
physical address (R81), its size and alignment (R82 to R86), and the fields of a register it covers
(R109, R125 to R127). -/

namespace Sys2Proof.Machine

/-- The reasons of `raise Unpredictable` (R13). -/
inductive Unpredictable where
  /-- R84. -/
  | misaligned
  /-- R85. -/
  | byteAccess
  /-- R86. -/
  | halfwordAccess
  /-- R168: security of an interrupt changed while its status is not drained. -/
  | securityNotDrained
  /-- R246: Int_config changed while the interrupt is enabled. -/
  | intConfigWhileEnabled
  /-- R281: ICDSGIR bits [14:4] are SBZ. -/
  | sgirSbz
  /-- R281: TargetListFilter 0b11 is Reserved. -/
  | sgirFilter
  /-- R319: EOI does not match an active interrupt. -/
  | eoiNoMatch
  /-- R319: EOI CPUID does not match the acknowledged SGI. -/
  | eoiCpuid
  /-- R319: EOI CPUID is SBZ and was written non-zero. -/
  | eoiSbz
  /-- R319: EOI out of order. -/
  | eoiOrder
  deriving DecidableEq, Repr

/-! ### Requester and interface -/

/-- SOURCE_ID (R8, R100): the connected processor that made the access; in a uniprocessor always
processor 0 (R9(d), log 8). -/
def sourceId (cfg : Config) (req : Option Cpu) : Option Cpu :=
  if ncpu cfg = 1 then some 0 else req

/-- The requester is no processor the system does not have (R12). -/
def requesterExists (cfg : Config) (req : Option Cpu) : Bool :=
  match sourceId cfg req with
  | none => true
  | some c => cpuExists cfg c

/-- The interface may be reached by the requester: it is its own, or CROSS_CPU_ACCESS (R101). -/
def interfaceReachable (cfg : Config) (req : Option Cpu) (ifc : Cpu) : Bool :=
  cfg.crossCpuAccess || decide (sourceId cfg req = some ifc)

/-! ### Physical addresses -/

/-- The interface whose block a requester reaches at an address: its own, where its own block holds
the address (R81), and otherwise the one interface whose block does (R101, log 22). -/
def addressedInterface (cfg : Config) (req : Option Cpu) (addr : Nat) : Option Cpu :=
  let holders := (List.finRange 8).filter fun c => inCpuBlock cfg c addr
  match holders.find? fun c => decide (sourceId cfg req = some c) with
  | some c => some c
  | none =>
    match holders with
    | [c] => some c
    | _ => none

/-- The access word (R120) of the register access at offset `off` of a block. -/
def accessWord (m : MemAccess) (cpuBlock : Bool) (ifc : BitVec 3) (off : Nat) : Word :=
  (0#8 ++ ifc ++ encodeRequester m.req ++ encodeSize m.size ++ BitVec.ofBool m.ns
    ++ BitVec.ofBool m.write ++ BitVec.ofBool cpuBlock ++ BitVec.ofNat 12 off : BitVec 32)

/-- The access word of a read or write of the memory map (R12): the access (D, -, off) at DBASE + off
and (C, ifc, off) at CBASE(ifc) + off; none where the address is no GIC access (R81, D38). -/
def memAccessWord (cfg : Config) (m : MemAccess) : Option Word :=
  if inDistBlock cfg m.addr then some (accessWord m false 0#3 (m.addr - cfg.distBase))
  else
    (addressedInterface cfg m.req m.addr).map fun c =>
      accessWord m true (BitVec.ofFin c) (m.addr - cpuBase cfg c)

/-! ### Size and alignment -/

/-- What an access of this size at this byte offset does wrong, if anything (R83 to R86); `bytes` says
that the register is byte accessible, which only ICDIPR and ICDIPTR are. -/
def accessError (cfg : Config) (bytes : Bool) (lane : BitVec 2) (size : AccessSize) :
    Option Unpredictable :=
  match size with
  | .word => if lane = 0#2 then none else some .misaligned
  | .halfword =>
    if lane.getLsbD 0 then some .misaligned
    else if bytes && decide (cfg.halfword = .bytePairs) then none
    else some .halfwordAccess
  | .byte => if bytes then none else some .byteAccess

/-- The number of bytes of an access (R12). -/
def sizeBytes : AccessSize → Nat
  | .byte => 1
  | .halfword => 2
  | .word => 4

/-! ### Fields -/

/-- Byte j of a data word (R82). -/
def dataByte (data : Word) (j : Nat) : Byte := data.extractLsb' (8 * j) 8

/-- The value of a read that covers the byte fields `lane` to `lane + bytes - 1`, the first one in
bits [7:0] (R82, R86, R241). -/
def readBytes (lane : BitVec 2) (size : AccessSize) (field : Nat → Byte) : Word :=
  let b := fun j => if j < sizeBytes size then field (lane.toNat + j) else 0#8
  b 3 ++ b 2 ++ b 1 ++ b 0

/-- A vector of byte variables after a write that covers the byte fields from `lane` on: `target F` is
the index field F is stored at, if its write takes effect, and `value` what a written byte stores
there (R86, R242). -/
def writeBytes (lane : BitVec 2) (size : AccessSize) (data : Word) (target : Nat → Option Nat)
    (value : Byte → Byte) (v : Bytes) : Bytes :=
  (List.range (sizeBytes size)).foldl (fun v j =>
    match target (lane.toNat + j) with
    | none => v
    | some i => putByte v i (value (dataByte data j))) v

/-- BitmapRead (R110): the 32 fields of instance m as one word. -/
def bitmapRead (s : State) (req : Option Cpu) (ns : Bool) (m : Nat) (v : Cpu → Nat → Bool) : Word :=
  bitsOf 32 fun f => readField s req ns (32 * m + f) false fun c => v c (32 * m + f)

/-- The slots of instance m that a bitmap write acts on: a written 1 in a Writable field (R110) that
meets the further condition of the register. -/
def bitmapTargets (s : State) (req : Option Cpu) (ns : Bool) (m : Nat) (data : Word)
    (further : Cpu → Nat → Bool) : Bits :=
  match bank req (32 * m) with
  | none => 0#1244
  | some c =>
    (bitsOf 32 fun f => data.getLsbD f
      && writesField s req ns (32 * m + f) fun c => further c (32 * m + f)).setWidth 1244
      <<< slot c (32 * m)

/-- The Int_config fields of instance m as one word (R127, R245). -/
def configRead (s : State) (req : Option Cpu) (ns : Bool) (m : Nat) (v : Cpu → Nat → Bool) : Word :=
  bitsOf 32 fun b => decide (b % 2 = 1)
    && readField s req ns (16 * m + b / 2) false fun c => v c (16 * m + b / 2)

/-- The slots of instance m of ICDICFR whose field a write reaches, as a mask (R246). -/
def configTargets (s : State) (req : Option Cpu) (ns : Bool) (m : Nat)
    (further : Cpu → Nat → Bool) : Bits :=
  match bank req (16 * m) with
  | none => 0#1244
  | some c =>
    (bitsOf 16 fun f =>
      writesField s req ns (16 * m + f) fun c => further c (16 * m + f)).setWidth 1244
      <<< slot c (16 * m)

/-- Int_config[1] of the sixteen fields of a data word (R140), at the slots of instance m. -/
def configData (req : Option Cpu) (m : Nat) (data : Word) : Bits :=
  match bank req (16 * m) with
  | none => 0#1244
  | some c => (bitsOf 16 fun f => data.getLsbD (2 * f + 1)).setWidth 1244 <<< slot c (16 * m)

end Sys2Proof.Machine
end

