-- ==== Sys2Proof/Machine/Ops.lean ====
section
/-! DEFINITION. The shared operations: UNPREDICTABLE behaviour (R13), the course of a register access
(R83 to R101, R391), taking an interrupt, that is Acknowledge (R431, R432, R441), and returning from
one, that is Deactivate (R433, R434). -/

namespace Sys2Proof.Machine

/-! ### UNPREDICTABLE -/

/-- The state whose GIC is one of the states nothing is promised about (R13, log 6). -/
def havoc (s : State) : State := { s with gic := unpredictableGic s.tick, tick := s.tick + 1 }

/-- `raise Unpredictable(reason)` (R13, log 6). The reason is not recorded. -/
def raise (_why : Unpredictable) (s : State) : State := havoc { s with unpred := true }

/-! ### Accesses -/

/-- An access of one size and byte offset to one register: its effect, or UNPREDICTABLE behaviour
where size or alignment are not supported (R83 to R86). -/
def sized (bytes : Bool) (lane : BitVec 2) (size : AccessSize) (s : State) (effect : State) : State :=
  match accessError s.cfg bytes lane size with
  | some why => raise why s
  | none => effect

/-- A Distributor access with the effect `effect`: refused from a processor that does not exist
(R12); no promise is made once UNPRED is set (R13). -/
def onDist (a : DistArgs) (s : State) (effect : State) : Result :=
  if requesterExists s.cfg a.req then .next (if s.unpred then havoc s else effect)
  else .refused .noSuchRequester

/-- A CPU interface access with the effect `effect` (R12, R101). -/
def onCpu (a : CpuArgs) (s : State) (effect : State) : Result :=
  if !requesterExists s.cfg a.req then .refused .noSuchRequester
  else if !cpuExists s.cfg a.ifc then .refused .noSuchInterface
  else if !interfaceReachable s.cfg a.req a.ifc then .refused .crossCpuAccess
  else .next (if s.unpred then havoc s else effect)

/-- A Distributor write with the effect `effect`: at once, or queued as it is where writes are delayed
(R391, log 16). -/
def writeDist (a : DistArgs) (i : Instr) (s : State) (effect : State) : Result :=
  onDist a s (if writesDelayed s.cfg then s.setWq (s.gic.wq ++ [i]) else effect)

/-- A read of a word-only Distributor register whose value is `v` and that has no side effect. -/
def readDist (a : DistArgs) (s : State) (v : Word) : Result :=
  onDist a s (sized false a.lane a.size s (s.respond v))

/-- A read of a CPU interface register whose value is `v` and that has no side effect. -/
def readCpu (a : CpuArgs) (s : State) (v : Word) : Result :=
  onCpu a s (sized false a.lane a.size s (s.respond v))

/-- A write to a CPU interface register with the effect `effect`. -/
def writeCpu (a : CpuArgs) (s : State) (effect : State) : Result :=
  onCpu a s (sized false a.lane a.size s effect)

/-- The value of an IMPLEMENTATION DEFINED register (R88, log 12). -/
def impdefValue (s : State) : Word :=
  match s.cfg.impdefRegs with
  | .razWi => 0#32
  | .anyValue => Config.unknown32 s.tick

/-! ### Taking an interrupt -/

/-- The state with entry e the newest of AS(c) (R36). -/
def pushActive (s : State) (c : Cpu) (e : ActiveEntry) : State :=
  s.withIfc c { s.ifc c with active := (s.ifc c).active ++ [e] }

/-- ACKWIN(n) after interface c acknowledged n (R431): the other interfaces that would themselves
have obtained n at that instant. -/
def opensWindowFor (s : State) (c : Cpu) (n : Nat) (c' : Cpu) : Bool :=
  decide (c' ≠ c) && cpuExists s.cfg c' && (topCands s c').contains { id := n, src := 0 }
    && signalable s c' n

/-- ACKWIN(n) <- the set `w` (R42, log 15). -/
def setAckWindow (s : State) (n : Nat) (w : Cpu → Bool) : State :=
  s.setIfcs (perCpu fun c =>
    { s.ifc c with ackWindow := putBit (s.ifc c).ackWindow (slot c n) (w c) })

/-- The pending state an acknowledge removes (R431): the one SGI instance, or the latch. -/
def clearPending (s : State) (c : Cpu) (p : IntRef) : State :=
  if p.id < 16 then s.setSgip (putBit s.gic.sgip (sgipIndex c p.id p.src) false)
  else s.setLatch (putBit s.gic.latch (slot c p.id) false)

/-- Acknowledge(c,n,src) (R431): taking the interrupt. What is pending is cleared, for an SPI the
double-acknowledge window is opened, and the entry (n, src, PRI) becomes the newest of AS(c). -/
def acknowledge (s : State) (c : Cpu) (p : IntRef) : State :=
  let s₁ :=
    if 32 ≤ p.id && doubleAckAllowed s.cfg then setAckWindow s p.id (opensWindowFor s c p.id) else s
  pushActive (clearPending s₁ c p) c { id := p.id, src := p.src, pri := priOf s c p.id }

/-- What a read of ICCIAR obtains (R432). -/
inductive IarValue where
  | spurious1023
  | spurious1022
  | valid (p : IntRef)
  deriving DecidableEq, Repr

/-- Table 4-30 for one interrupt (R432): a Non-secure access does not obtain a Secure interrupt, and a
Secure access obtains a Non-secure one only with AckCtl = 1. -/
def iarSecurity (s : State) (c : Cpu) (ns : Bool) (p : IntRef) : IarValue :=
  if s.cfg.secext && isSecureInt s c p.id && ns then .spurious1023
  else if s.cfg.secext && !isSecureInt s c p.id && !ns && !(s.ifc c).ackCtl then .spurious1022
  else .valid p

/-- IARValue(c,ns) without the double-acknowledge window (R317, R432). -/
def iarValue (s : State) (c : Cpu) (ns : Bool) : IarValue :=
  match hppi s c with
  | none => .spurious1023
  | some h => if signalable s c h.id then iarSecurity s c ns h else .spurious1023

/-- The SPIs with interface c in their ACKWIN (R42). -/
def openWindows (s : State) (c : Cpu) : List Nat :=
  ((List.range (maxId s.cfg - 32)).map (· + 32)).filter fun n =>
    (s.ifc c).ackWindow.getLsbD (slot c n)

/-- The window case of IARValue (R441): the SPI that this read of interface c obtains although another
interface has acknowledged it. Whether a window is tried, and which, is open. -/
def windowSpi (s : State) (c : Cpu) (ns : Bool) : Option Nat :=
  if !doubleAckAllowed s.cfg then none
  else match openWindows s c with
    | [] => none
    | n :: ns' =>
      if !Config.triesWindow s.tick then none
      else match choose (Config.pickWindow s.tick) (n :: ns') with
        | none => none
        | some n =>
          if !act s c n && signalable s c n
              && decide (iarSecurity s c ns { id := n, src := 0 } = .valid { id := n, src := 0 })
          then some n else none

/-- Interface c is removed from every ACKWIN (R441). -/
def closeOwnWindows (s : State) (c : Cpu) : State :=
  s.withIfc c { s.ifc c with ackWindow := 0#1244 }

/-- The word of an interrupt in ICCIAR and ICCHPIR: CPUID in [12:10], the identifier in [9:0] (R147,
R150). -/
def intWord (p : IntRef) : Word := 0#19 ++ BitVec.ofNat 3 p.src.val ++ BitVec.ofNat 10 p.id

/-- The read of ICCIAR (R317, R432, R441): the value, with the acknowledge it stands for. -/
def readIar (s : State) (c : Cpu) (ns : Bool) : State :=
  let s₁ := closeOwnWindows s c
  match windowSpi s c ns with
  | some n =>
    (pushActive s₁ c { id := n, src := 0, pri := priOf s c n }).respond (intWord { id := n, src := 0 })
  | none =>
    match iarValue s c ns with
    | .spurious1023 => s₁.respond 0x3FF#32
    | .spurious1022 => s₁.respond 0x3FE#32
    | .valid p => (acknowledge s₁ c p).respond (intWord p)

/-! ### Returning from an interrupt -/

/-- ACKWIN(n) <- {} (R388, R433). -/
def closeAckWindow (s : State) (n : Nat) : State := setAckWindow s n fun _ => false

/-- Deactivate(c,id) (R433): returning from the interrupt. Its entry leaves AS(c), which restores the
running priority, and an SPI's window closes. -/
def deactivate (s : State) (c : Cpu) (n : Nat) : State :=
  let s₁ :=
    s.withIfc c { s.ifc c with active := (s.ifc c).active.filter fun e => decide (e.id ≠ n) }
  if 32 ≤ n && doubleAckAllowed s.cfg then closeAckWindow s₁ n else s₁

/-- EOIPermitted(c,id,ns) (R434, Table 4-32). -/
def eoiPermitted (s : State) (c : Cpu) (n : Nat) (ns : Bool) : Bool :=
  if isSecureInt s c n then !ns else ns || (s.ifc c).ackCtl

/-- The write of ICCEOIR (R319). -/
def writeEoi (s : State) (c : Cpu) (ns : Bool) (data : Word) : State :=
  let n := (data.extractLsb' 0 10).toNat
  let cpuid := (data.extractLsb' 10 3).toNat
  if n = 1023 then s
  else if n = 1022 && s.cfg.secext then s
  else match activeEntry s c n with
    | none => raise .eoiNoMatch s
    | some e =>
      if n < 16 && ncpu s.cfg ≠ 1 && cpuid ≠ e.src.val then raise .eoiCpuid s
      else if !(n < 16 && ncpu s.cfg ≠ 1) && cpuid ≠ 0 then raise .eoiSbz s
      else if s.cfg.secext && !eoiPermitted s c n ns then s
      else if decide ((s.ifc c).active.getLast? ≠ some e)
          && decide (s.cfg.eoiOrderViolation = .unpredictable) then raise .eoiOrder s
      else deactivate s c n

end Sys2Proof.Machine
end

