-- ==== Sys2Proof/Machine/CpuRegs.lean ====
section
/-! DEFINITION. The CPU interface registers (R310 to R330). -/

namespace Sys2Proof.Machine

/-! ### ICCICR -/

/-- `RD ICCICR` (R311). -/
def iccicrValue (s : State) (c : Cpu) (ns : Bool) : Word :=
  let i := s.ifc c
  if !s.cfg.secext then (BitVec.ofBool i.enableS).setWidth 32
  else if ns then (BitVec.ofBool i.enableNS).setWidth 32
  else 0#27 ++ BitVec.ofBool i.sbpr ++ BitVec.ofBool i.fiqEn ++ BitVec.ofBool i.ackCtl
    ++ BitVec.ofBool i.enableNS ++ BitVec.ofBool i.enableS

/-- `WR ICCICR` (R312). -/
def writeIccicr (c : Cpu) (ns : Bool) (data : Word) (s : State) : State :=
  let i := s.ifc c
  if !s.cfg.secext then s.withIfc c { i with enableS := data.getLsbD 0 }
  else if ns then s.withIfc c { i with enableNS := data.getLsbD 0 }
  else if lockActive s then s.withIfc c { i with enableNS := data.getLsbD 1 }
  else s.withIfc c
    { i with
      enableNS := data.getLsbD 1
      enableS := data.getLsbD 0
      ackCtl := data.getLsbD 2
      fiqEn := data.getLsbD 3
      sbpr := data.getLsbD 4 }

/-- `RD ICCICR` (R311). -/
def execRdIccicr (a : CpuArgs) (s : State) : Result :=
  readCpu a s (iccicrValue s a.ifc a.ns)

/-- `WR ICCICR` (R312). -/
def execWrIccicr (a : CpuArgs) (data : Word) (s : State) : Result :=
  writeCpu a s (writeIccicr a.ifc a.ns data s)

/-! ### ICCPMR -/

/-- `RD ICCPMR` (R313). -/
def iccpmrValue (s : State) (c : Cpu) (ns : Bool) : Word :=
  if s.cfg.secext && ns then (nsViewOfRegister s.cfg (s.ifc c).pmr).setWidth 32
  else (s.ifc c).pmr.setWidth 32

/-- `WR ICCPMR` (R314). -/
def writeIccpmr (c : Cpu) (ns : Bool) (data : Word) (s : State) : State :=
  if s.cfg.secext && ns then
    if (s.ifc c).pmr.getLsbD 7 then
      s.withIfc c { s.ifc c with pmr := nsViewWrite s.cfg (dataByte data 0) }
    else s
  else s.withIfc c { s.ifc c with pmr := sViewWrite s.cfg (dataByte data 0) }

/-- `RD ICCPMR` (R313). -/
def execRdIccpmr (a : CpuArgs) (s : State) : Result :=
  readCpu a s (iccpmrValue s a.ifc a.ns)

/-- `WR ICCPMR` (R314). -/
def execWrIccpmr (a : CpuArgs) (data : Word) (s : State) : Result :=
  writeCpu a s (writeIccpmr a.ifc a.ns data s)

/-! ### ICCBPR and ICCABPR -/

/-- The binary point a written data word stores (R316): its bits [2:0], saturated to the minimum. -/
def binaryPointStored (cfg : Config) (data : Word) : BitVec 3 :=
  let v := data.setWidth 3
  if v.toNat < minimumBinaryPoint cfg then cfg.minBinaryPoint.setWidth 3 else v

/-- `RD ICCBPR` (R315). -/
def iccbprValue (s : State) (c : Cpu) (ns : Bool) : Word :=
  if s.cfg.secext && ns then (s.ifc c).bprNS.setWidth 32 else (s.ifc c).bprS.setWidth 32

/-- `WR ICCBPR` (R316). -/
def writeIccbpr (c : Cpu) (ns : Bool) (data : Word) (s : State) : State :=
  if s.cfg.secext && ns then
    s.withIfc c { s.ifc c with bprNS := binaryPointStored s.cfg data }
  else s.withIfc c { s.ifc c with bprS := binaryPointStored s.cfg data }

/-- `RD ICCABPR` (R323). -/
def iccabprValue (s : State) (c : Cpu) (ns : Bool) : Word :=
  if s.cfg.secext && !ns then (s.ifc c).bprNS.setWidth 32 else 0#32

/-- `WR ICCABPR` (R324). -/
def writeIccabpr (c : Cpu) (ns : Bool) (data : Word) (s : State) : State :=
  if s.cfg.secext && !ns then
    s.withIfc c { s.ifc c with bprNS := binaryPointStored s.cfg data }
  else s

/-- `RD ICCBPR` (R315). -/
def execRdIccbpr (a : CpuArgs) (s : State) : Result :=
  readCpu a s (iccbprValue s a.ifc a.ns)

/-- `WR ICCBPR` (R316). -/
def execWrIccbpr (a : CpuArgs) (data : Word) (s : State) : Result :=
  writeCpu a s (writeIccbpr a.ifc a.ns data s)

/-- `RD ICCABPR` (R323). -/
def execRdIccabpr (a : CpuArgs) (s : State) : Result :=
  readCpu a s (iccabprValue s a.ifc a.ns)

/-- `WR ICCABPR` (R324). -/
def execWrIccabpr (a : CpuArgs) (data : Word) (s : State) : Result :=
  writeCpu a s (writeIccabpr a.ifc a.ns data s)

/-! ### ICCIAR and ICCEOIR -/

/-- `RD ICCIAR` (R317): the acknowledge. -/
def execRdIcciar (a : CpuArgs) (s : State) : Result :=
  onCpu a s (sized false a.lane a.size s (readIar s a.ifc a.ns).drawn)

/-- `WR ICCIAR`: a read-only register, the write is ignored (R318). -/
def execWrIcciar (a : CpuArgs) (_data : Word) (s : State) : Result :=
  writeCpu a s (s)

/-- `RD ICCEOIR`: a write-only register reads as UNKNOWN (R320). -/
def execRdIcceoir (a : CpuArgs) (s : State) : Result :=
  onCpu a s (sized false a.lane a.size s (s.respond (Config.unknown32 s.tick)).drawn)

/-- `WR ICCEOIR`: the end of the interrupt (R319). -/
def execWrIcceoir (a : CpuArgs) (data : Word) (s : State) : Result :=
  writeCpu a s (writeEoi s a.ifc a.ns data)

/-! ### ICCRPR -/

/-- The idle value of ICCRPR (R321): 0xFF or P_MASK; which of them is open (log 5). -/
def idlePriority (s : State) : Byte :=
  if Config.idleIsAllOnes s.tick then 0xFF#8 else pMask s.cfg

/-- The priority as an access of attribute `ns` reads it in ICCRPR (R321). -/
def iccrprValue (s : State) (ns : Bool) (v : Byte) : Word :=
  if s.cfg.secext && ns then (nsViewOfRegister s.cfg v).setWidth 32 else v.setWidth 32

/-- The read of ICCRPR (R321). -/
def readIccrpr (s : State) (c : Cpu) (ns : Bool) : State :=
  match runningPriority s c with
  | some v => s.respond (iccrprValue s ns v)
  | none => (s.respond (iccrprValue s ns (idlePriority s))).drawn

/-- `RD ICCRPR` (R321). -/
def execRdIccrpr (a : CpuArgs) (s : State) : Result :=
  onCpu a s (sized false a.lane a.size s (readIccrpr s a.ifc a.ns))

/-- `WR ICCRPR`: a read-only register, the write is ignored (R322). -/
def execWrIccrpr (a : CpuArgs) (_data : Word) (s : State) : Result :=
  writeCpu a s (s)

/-! ### ICCHPIR -/

/-- `RD ICCHPIR` (R325): what `RD ICCIAR` would return, without the acknowledge; without the Security
Extensions the priority filter is HPIR_PRIORITY_FILTER. -/
def icchpirValue (s : State) (c : Cpu) (ns : Bool) : Word :=
  match hppi s c with
  | none => 0x3FF#32
  | some h =>
    if s.cfg.secext then
      if !signalable s c h.id then 0x3FF#32
      else match iarSecurity s c ns h with
        | .spurious1023 => 0x3FF#32
        | .spurious1022 => 0x3FE#32
        | .valid p => intWord p
    else if !(s.ifc c).enableS then 0x3FF#32
    else if s.cfg.hpirPriorityFilter && !sufficientPriority s c h.id then 0x3FF#32
    else intWord h

/-- `RD ICCHPIR` (R325). -/
def execRdIcchpir (a : CpuArgs) (s : State) : Result :=
  onCpu a s (sized false a.lane a.size s (s.respond (icchpirValue s a.ifc a.ns)).drawn)

/-- `WR ICCHPIR`: a read-only register, the write is ignored (R326). -/
def execWrIcchpir (a : CpuArgs) (_data : Word) (s : State) : Result :=
  writeCpu a s (s)

/-! ### ICCIIDR -/

/-- `RD ICCIIDR` (R327). -/
def execRdIcciidr (a : CpuArgs) (s : State) : Result :=
  readCpu a s (icciidrValue s.cfg)

/-- `WR ICCIIDR`: a read-only register, the write is ignored (R328). -/
def execWrIcciidr (a : CpuArgs) (_data : Word) (s : State) : Result :=
  writeCpu a s (s)

/-! ### Reserved and IMPLEMENTATION DEFINED offsets -/

/-- A read of the reserved CPU interface offsets 0x20-0x3C returns 0 (R329). -/
def execRdRes20 (_m : BitVec 3) (a : CpuArgs) (s : State) : Result :=
  readCpu a s (0#32)

/-- A write to the reserved CPU interface offsets 0x20-0x3C is ignored (R329). -/
def execWrRes20 (_m : BitVec 3) (a : CpuArgs) (_data : Word) (s : State) : Result :=
  writeCpu a s (s)

/-- A read of the IMPLEMENTATION DEFINED CPU interface offsets 0x40-0x7C (R330). -/
def execRdImp40 (_m : BitVec 4) (a : CpuArgs) (s : State) : Result :=
  onCpu a s (sized false a.lane a.size s (s.respond (impdefValue s)).drawn)

/-- A write to the IMPLEMENTATION DEFINED CPU interface offsets 0x40-0x7C is ignored (R330). -/
def execWrImp40 (_m : BitVec 4) (a : CpuArgs) (_data : Word) (s : State) : Result :=
  writeCpu a s (s)

/-- A read of the IMPLEMENTATION DEFINED CPU interface offsets 0x80-0xBC (R330). -/
def execRdImp80 (_m : BitVec 4) (a : CpuArgs) (s : State) : Result :=
  onCpu a s (sized false a.lane a.size s (s.respond (impdefValue s)).drawn)

/-- A write to the IMPLEMENTATION DEFINED CPU interface offsets 0x80-0xBC is ignored (R330). -/
def execWrImp80 (_m : BitVec 4) (a : CpuArgs) (_data : Word) (s : State) : Result :=
  writeCpu a s (s)

/-- A read of the IMPLEMENTATION DEFINED CPU interface offsets 0xC0-0xCF (R330). -/
def execRdImpC0 (_m : BitVec 2) (a : CpuArgs) (s : State) : Result :=
  onCpu a s (sized false a.lane a.size s (s.respond (impdefValue s)).drawn)

/-- A write to the IMPLEMENTATION DEFINED CPU interface offsets 0xC0-0xCF is ignored (R330). -/
def execWrImpC0 (_m : BitVec 2) (a : CpuArgs) (_data : Word) (s : State) : Result :=
  writeCpu a s (s)

/-- A read of the reserved CPU interface offsets 0xD0-0xDC returns 0 (R329). -/
def execRdResD0 (_m : BitVec 2) (a : CpuArgs) (s : State) : Result :=
  readCpu a s (0#32)

/-- A write to the reserved CPU interface offsets 0xD0-0xDC is ignored (R329). -/
def execWrResD0 (_m : BitVec 2) (a : CpuArgs) (_data : Word) (s : State) : Result :=
  writeCpu a s (s)

/-- A read of the reserved CPU interface offsets 0xE0-0xF8 returns 0 (R329). -/
def execRdResE0 (_m : BitVec 3) (a : CpuArgs) (s : State) : Result :=
  readCpu a s (0#32)

/-- A write to the reserved CPU interface offsets 0xE0-0xF8 is ignored (R329). -/
def execWrResE0 (_m : BitVec 3) (a : CpuArgs) (_data : Word) (s : State) : Result :=
  writeCpu a s (s)

end Sys2Proof.Machine
end

