-- ==== Sys2Proof/Machine/DistBitmaps.lean ====
section
/-! DEFINITION. Distributor enable, pending and active registers (R190 to R205). -/

namespace Sys2Proof.Machine

/-- The interrupt can be enabled and disabled (R192, R194). -/
def enableProgrammable (s : State) (c : Cpu) (n : Nat) : Bool := !permanentlyEnabled s.cfg c n

/-- The pending bit of the interrupt can be written: it is no SGI (R196, R198). -/
def pendingProgrammable (_c : Cpu) (n : Nat) : Bool := decide (16 ≤ n)

/-- The Active bit that ICDABR shows (R199). -/
def activeBit (s : State) (c : Cpu) (n : Nat) : Bool := if n < 32 then act s c n else actAny s n

/-- `WR ICDISERn` (R192). -/
def writeIcdiser (req : Option Cpu) (ns : Bool) (m : Nat) (data : Word) (s : State) : State :=
  s.setEn (s.gic.en ||| bitmapTargets s req ns m data (enableProgrammable s))

/-- `WR ICDICERn` (R194). -/
def writeIcdicer (req : Option Cpu) (ns : Bool) (m : Nat) (data : Word) (s : State) : State :=
  s.setEn (s.gic.en &&& ~~~ bitmapTargets s req ns m data (enableProgrammable s))

/-- `WR ICDISPRn` (R196). -/
def writeIcdispr (req : Option Cpu) (ns : Bool) (m : Nat) (data : Word) (s : State) : State :=
  s.setLatch (s.gic.latch ||| bitmapTargets s req ns m data pendingProgrammable)

/-- `WR ICDICPRn` (R198). -/
def writeIcdicpr (req : Option Cpu) (ns : Bool) (m : Nat) (data : Word) (s : State) : State :=
  s.setLatch (s.gic.latch &&& ~~~ bitmapTargets s req ns m data pendingProgrammable)

/-- `RD ICDISERn` (R191). -/
def execRdIcdiser (m : BitVec 5) (a : DistArgs) (s : State) : Result :=
  readDist a s (bitmapRead s (sourceId s.cfg a.req) a.ns m.toNat (enOf s))

/-- `WR ICDISERn` (R192): the effect, when the write is performed. -/
def wrIcdiserNow (m : BitVec 5) (a : DistArgs) (data : Word) (s : State) : State :=
  sized false a.lane a.size s (writeIcdiser (sourceId s.cfg a.req) a.ns m.toNat data s)

/-- `WR ICDISERn` (R192). -/
def execWrIcdiser (m : BitVec 5) (a : DistArgs) (data : Word) (s : State) : Result :=
  writeDist a (.wrIcdiser m a data) s (wrIcdiserNow m a data s)

/-- `RD ICDICERn` (R193). -/
def execRdIcdicer (m : BitVec 5) (a : DistArgs) (s : State) : Result :=
  readDist a s (bitmapRead s (sourceId s.cfg a.req) a.ns m.toNat (enOf s))

/-- `WR ICDICERn` (R194): the effect, when the write is performed. -/
def wrIcdicerNow (m : BitVec 5) (a : DistArgs) (data : Word) (s : State) : State :=
  sized false a.lane a.size s (writeIcdicer (sourceId s.cfg a.req) a.ns m.toNat data s)

/-- `WR ICDICERn` (R194). -/
def execWrIcdicer (m : BitVec 5) (a : DistArgs) (data : Word) (s : State) : Result :=
  writeDist a (.wrIcdicer m a data) s (wrIcdicerNow m a data s)

/-- `RD ICDISPRn` (R195). -/
def execRdIcdispr (m : BitVec 5) (a : DistArgs) (s : State) : Result :=
  readDist a s (bitmapRead s (sourceId s.cfg a.req) a.ns m.toNat (pend s))

/-- `WR ICDISPRn` (R196): the effect, when the write is performed. -/
def wrIcdisprNow (m : BitVec 5) (a : DistArgs) (data : Word) (s : State) : State :=
  sized false a.lane a.size s (writeIcdispr (sourceId s.cfg a.req) a.ns m.toNat data s)

/-- `WR ICDISPRn` (R196). -/
def execWrIcdispr (m : BitVec 5) (a : DistArgs) (data : Word) (s : State) : Result :=
  writeDist a (.wrIcdispr m a data) s (wrIcdisprNow m a data s)

/-- `RD ICDICPRn` (R197). -/
def execRdIcdicpr (m : BitVec 5) (a : DistArgs) (s : State) : Result :=
  readDist a s (bitmapRead s (sourceId s.cfg a.req) a.ns m.toNat (pend s))

/-- `WR ICDICPRn` (R198): the effect, when the write is performed. -/
def wrIcdicprNow (m : BitVec 5) (a : DistArgs) (data : Word) (s : State) : State :=
  sized false a.lane a.size s (writeIcdicpr (sourceId s.cfg a.req) a.ns m.toNat data s)

/-- `WR ICDICPRn` (R198). -/
def execWrIcdicpr (m : BitVec 5) (a : DistArgs) (data : Word) (s : State) : Result :=
  writeDist a (.wrIcdicpr m a data) s (wrIcdicprNow m a data s)

/-- `RD ICDABRn` (R199). -/
def execRdIcdabr (m : BitVec 5) (a : DistArgs) (s : State) : Result :=
  readDist a s (bitmapRead s (sourceId s.cfg a.req) a.ns m.toNat (activeBit s))

/-- `WR ICDABR`: a read-only register, the write is ignored (R200): the effect, when the write is performed. -/
def wrIcdabrNow (_m : BitVec 5) (a : DistArgs) (_data : Word) (s : State) : State :=
  sized false a.lane a.size s (s)

/-- `WR ICDABR`: a read-only register, the write is ignored (R200). -/
def execWrIcdabr (m : BitVec 5) (a : DistArgs) (data : Word) (s : State) : Result :=
  writeDist a (.wrIcdabr m a data) s (wrIcdabrNow m a data s)

/-- A read of the reserved Distributor offsets 0x380-0x3FC returns 0 (R205). -/
def execRdRes380 (_m : BitVec 5) (a : DistArgs) (s : State) : Result :=
  readDist a s (0#32)

/-- A write to the reserved Distributor offsets 0x380-0x3FC is ignored (R205): the effect, when the write is performed. -/
def wrRes380Now (_m : BitVec 5) (a : DistArgs) (_data : Word) (s : State) : State :=
  sized false a.lane a.size s (s)

/-- A write to the reserved Distributor offsets 0x380-0x3FC is ignored (R205). -/
def execWrRes380 (m : BitVec 5) (a : DistArgs) (data : Word) (s : State) : Result :=
  writeDist a (.wrRes380 m a data) s (wrRes380Now m a data s)

end Sys2Proof.Machine
end

