-- ==== Sys2Proof/Machine/DistBytes.lean ====
section
/-! DEFINITION. Distributor priority, processor targets and configuration registers (R240 to R252). -/

namespace Sys2Proof.Machine

/-! ### ICDIPR -/

/-- A field of ICDIPR as an access of attribute `ns` sees it (R241). -/
def icdiprField (s : State) (req : Option Cpu) (ns : Bool) (n : Nat) : Byte :=
  readField s req ns n 0#8 fun c =>
    if s.cfg.secext && ns then nsViewRead s.cfg (priOf s c n) else priOf s c n

/-- Where a write to the priority field of interrupt n is stored, if it takes effect (R242). -/
def icdiprTarget (s : State) (req : Option Cpu) (ns : Bool) (n : Nat) : Option Nat :=
  match bank req n with
  | none => none
  | some c =>
    if writable s c n ns && decide (fixedPriority s.cfg c n = none) then some (slot c n) else none

/-- The priority a written value stores (R242). -/
def icdiprStored (s : State) (ns : Bool) (v : Byte) : Byte :=
  if s.cfg.secext && ns then nsViewWrite s.cfg v else sViewWrite s.cfg v

/-- `WR ICDIPRn` (R242). -/
def writeIcdipr (a : DistArgs) (m : Nat) (data : Word) (s : State) : State :=
  s.setPri (writeBytes a.lane a.size data
    (fun f => icdiprTarget s (sourceId s.cfg a.req) a.ns (4 * m + f)) (icdiprStored s a.ns) s.gic.pri)

/-- `RD ICDIPRn` (R241). -/
def execRdIcdipr (m : BitVec 8) (a : DistArgs) (s : State) : Result :=
  onDist a s (sized true a.lane a.size s (s.respond (readBytes a.lane a.size fun f =>
    icdiprField s (sourceId s.cfg a.req) a.ns (4 * m.toNat + f))))

/-- `WR ICDIPRn` (R242): the effect, when the write is performed. -/
def wrIcdiprNow (m : BitVec 8) (a : DistArgs) (data : Word) (s : State) : State :=
  sized true a.lane a.size s (writeIcdipr a m.toNat data s)

/-- `WR ICDIPRn` (R242). -/
def execWrIcdipr (m : BitVec 8) (a : DistArgs) (data : Word) (s : State) : Result :=
  writeDist a (.wrIcdipr m a data) s (wrIcdiprNow m a data s)

/-! ### ICDIPTR -/

/-- A field of ICDIPTR (R243): 0 in a uniprocessor; for a private interrupt the mask of the reader's
own interface; for an SPI its targets. -/
def icdiptrField (s : State) (req : Option Cpu) (ns : Bool) (n : Nat) : Byte :=
  if ncpu s.cfg = 1 then 0#8
  else readField s req ns n 0#8 fun c => if n < 32 then 1#8 <<< c.val else tgtOf s n

/-- Where a write to the CPU targets field of interrupt n is stored, if it takes effect (R244). -/
def icdiptrTarget (s : State) (ns : Bool) (n : Nat) : Option Nat :=
  if ncpu s.cfg = 1 then none
  else if n < 32 then none
  else if writable s 0 n ns && decide (spiTargetFixed s.cfg n = none) then some (n + 224)
  else none

/-- `WR ICDIPTRn` (R244). -/
def writeIcdiptr (a : DistArgs) (m : Nat) (data : Word) (s : State) : State :=
  s.setTgt (writeBytes a.lane a.size data (fun f => icdiptrTarget s a.ns (4 * m + f))
    (fun v => v &&& targetMask s.cfg) s.gic.tgt)

/-- `RD ICDIPTRn`, n = 0 to 7 (R243). -/
def execRdIcdiptrPriv (m : BitVec 3) (a : DistArgs) (s : State) : Result :=
  onDist a s (sized true a.lane a.size s (s.respond (readBytes a.lane a.size fun f =>
    icdiptrField s (sourceId s.cfg a.req) a.ns (4 * m.toNat + f))))

/-- `WR ICDIPTRn`, n = 0 to 7 (R244): the effect, when the write is performed. -/
def wrIcdiptrPrivNow (m : BitVec 3) (a : DistArgs) (data : Word) (s : State) : State :=
  sized true a.lane a.size s (writeIcdiptr a m.toNat data s)

/-- `WR ICDIPTRn`, n = 0 to 7 (R244). -/
def execWrIcdiptrPriv (m : BitVec 3) (a : DistArgs) (data : Word) (s : State) : Result :=
  writeDist a (.wrIcdiptrPriv m a data) s (wrIcdiptrPrivNow m a data s)

/-- `RD ICDIPTRn`, n = 8 to 254 (R243). -/
def execRdIcdiptrSpi (m : BitVec 8) (a : DistArgs) (s : State) : Result :=
  onDist a s (sized true a.lane a.size s (s.respond (readBytes a.lane a.size fun f =>
    icdiptrField s (sourceId s.cfg a.req) a.ns (4 * m.toNat + f))))

/-- `WR ICDIPTRn`, n = 8 to 254 (R244): the effect, when the write is performed. -/
def wrIcdiptrSpiNow (m : BitVec 8) (a : DistArgs) (data : Word) (s : State) : State :=
  sized true a.lane a.size s (writeIcdiptr a m.toNat data s)

/-- `WR ICDIPTRn`, n = 8 to 254 (R244). -/
def execWrIcdiptrSpi (m : BitVec 8) (a : DistArgs) (data : Word) (s : State) : Result :=
  writeDist a (.wrIcdiptrSpi m a data) s (wrIcdiptrSpiNow m a data s)

/-! ### ICDICFR -/

/-- Int_config[1] of an interrupt (R245): 1 for an SGI. -/
def intConfig (s : State) (c : Cpu) (n : Nat) : Bool := if n < 16 then true else edgeOf s c n

/-- The write changes the trigger mode of field f while its interrupt is enabled (R246). -/
def triggerConflict (s : State) (req : Option Cpu) (ns : Bool) (m : Nat) (data : Word) (f : Nat) :
    Bool :=
  writesField s req ns (16 * m + f) fun c =>
    cfgProgrammable s.cfg c (16 * m + f) && decide (edgeOf s c (16 * m + f) ≠ data.getLsbD (2 * f + 1))
      && enOf s c (16 * m + f)

/-- `WR ICDICFRn` (R246, log 14). -/
def writeIcdicfr (req : Option Cpu) (ns : Bool) (m : Nat) (data : Word) (s : State) : State :=
  if (List.range 16).any (triggerConflict s req ns m data) then raise .intConfigWhileEnabled s
  else s.setIcfg
    ((s.gic.icfg &&& ~~~ configTargets s req ns m (cfgProgrammable s.cfg))
      ||| (configData req m data &&& configTargets s req ns m (cfgProgrammable s.cfg)))

/-- `RD ICDICFRn` (R245). -/
def execRdIcdicfr (m : BitVec 6) (a : DistArgs) (s : State) : Result :=
  readDist a s (configRead s (sourceId s.cfg a.req) a.ns m.toNat (intConfig s))

/-- `WR ICDICFRn` (R246): the effect, when the write is performed. -/
def wrIcdicfrNow (m : BitVec 6) (a : DistArgs) (data : Word) (s : State) : State :=
  sized false a.lane a.size s (writeIcdicfr (sourceId s.cfg a.req) a.ns m.toNat data s)

/-- `WR ICDICFRn` (R246). -/
def execWrIcdicfr (m : BitVec 6) (a : DistArgs) (data : Word) (s : State) : Result :=
  writeDist a (.wrIcdicfr m a data) s (wrIcdicfrNow m a data s)

/-! ### Reserved -/

/-- A read of the reserved Distributor offsets 0x7FC returns 0 (R252). -/
def execRdRes7FC (a : DistArgs) (s : State) : Result :=
  readDist a s (0#32)

/-- A write to the reserved Distributor offsets 0x7FC is ignored (R252): the effect, when the write is performed. -/
def wrRes7FCNow (a : DistArgs) (_data : Word) (s : State) : State :=
  sized false a.lane a.size s (s)

/-- A write to the reserved Distributor offsets 0x7FC is ignored (R252). -/
def execWrRes7FC (a : DistArgs) (data : Word) (s : State) : Result :=
  writeDist a (.wrRes7FC a data) s (wrRes7FCNow a data s)

/-- A read of the reserved Distributor offsets 0xBFC returns 0 (R252). -/
def execRdResBFC (a : DistArgs) (s : State) : Result :=
  readDist a s (0#32)

/-- A write to the reserved Distributor offsets 0xBFC is ignored (R252): the effect, when the write is performed. -/
def wrResBFCNow (a : DistArgs) (_data : Word) (s : State) : State :=
  sized false a.lane a.size s (s)

/-- A write to the reserved Distributor offsets 0xBFC is ignored (R252). -/
def execWrResBFC (a : DistArgs) (data : Word) (s : State) : Result :=
  writeDist a (.wrResBFC a data) s (wrResBFCNow a data s)

end Sys2Proof.Machine
end

