-- ==== Sys2Proof/Machine/DistControl.lean ====
section
/-! DEFINITION. Distributor control, type, identification and security registers (R160 to R170). -/

namespace Sys2Proof.Machine

/-! ### ICDDCR -/

/-- The interface of a slot (R25, log 13); 0 for an SPI. -/
def slotCpu (k : Nat) : Cpu := if k < 256 then Fin.ofNat 8 (k / 32) else 0

/-- The interrupt identifier of a slot (R25, log 13). -/
def slotId (k : Nat) : Nat := if k < 256 then k % 32 else k - 224

/-- `RD ICDDCR` (R161): the Enable bit of the copy the access reaches. -/
def icddcrValue (s : State) (ns : Bool) : Word :=
  if s.cfg.secext && ns then (BitVec.ofBool s.gic.dcrNS).setWidth 32
  else (BitVec.ofBool s.gic.dcrS).setWidth 32

/-- The interrupt of slot k is edge-triggered with its line HIGH, and the Distributor enable that
applies to it goes from 0 in `s` to 1 in `t` (R162). -/
def risesAtEnable (s t : State) (k : Nat) : Bool :=
  decide (16 ≤ slotId k) && implemented t.cfg (slotCpu k) (slotId k) && edgeOf t (slotCpu k) (slotId k)
    && lineOf t (slotCpu k) (slotId k) && !fwdEn s (slotCpu k) (slotId k)
    && fwdEn t (slotCpu k) (slotId k)

/-- The Enable bit a write of ICDDCR stores (R162); the Secure copy can be locked down. -/
def setEnableBit (ns : Bool) (data : Word) (s : State) : State :=
  if s.cfg.secext && ns then s.setDcrNS (data.getLsbD 0)
  else if lockActive s then s
  else s.setDcrS (data.getLsbD 0)

/-- `WR ICDDCR` (R162). -/
def writeIcddcr (ns : Bool) (data : Word) (s : State) : State :=
  let t := setEnableBit ns data s
  if s.cfg.edgeHighAtEnable = .edge then
    t.setLatch (t.gic.latch ||| bitsOf 1244 (risesAtEnable s t))
  else t

/-- `RD ICDDCR` (R161). -/
def execRdIcddcr (a : DistArgs) (s : State) : Result :=
  readDist a s (icddcrValue s a.ns)

/-- `WR ICDDCR` (R162): the effect, when the write is performed. -/
def wrIcddcrNow (a : DistArgs) (data : Word) (s : State) : State :=
  sized false a.lane a.size s (writeIcddcr a.ns data s)

/-- `WR ICDDCR` (R162). -/
def execWrIcddcr (a : DistArgs) (data : Word) (s : State) : Result :=
  writeDist a (.wrIcddcr a data) s (wrIcddcrNow a data s)

/-! ### ICDICTR and ICDIIDR -/

/-- `RD ICDICTR` (R163). -/
def execRdIcdictr (a : DistArgs) (s : State) : Result :=
  readDist a s (icdictrValue s.cfg)

/-- `WR ICDICTR`: a read-only register, the write is ignored (R164): the effect, when the write is performed. -/
def wrIcdictrNow (a : DistArgs) (_data : Word) (s : State) : State :=
  sized false a.lane a.size s (s)

/-- `WR ICDICTR`: a read-only register, the write is ignored (R164). -/
def execWrIcdictr (a : DistArgs) (data : Word) (s : State) : Result :=
  writeDist a (.wrIcdictr a data) s (wrIcdictrNow a data s)

/-- `RD ICDIIDR` (R165). -/
def execRdIcdiidr (a : DistArgs) (s : State) : Result :=
  readDist a s (icdiidrValue s.cfg)

/-- `WR ICDIIDR`: a read-only register, the write is ignored (R166): the effect, when the write is performed. -/
def wrIcdiidrNow (a : DistArgs) (_data : Word) (s : State) : State :=
  sized false a.lane a.size s (s)

/-- `WR ICDIIDR`: a read-only register, the write is ignored (R166). -/
def execWrIcdiidr (a : DistArgs) (data : Word) (s : State) : Result :=
  writeDist a (.wrIcdiidr a data) s (wrIcdiidrNow a data s)

/-! ### ICDISR -/

/-- `RD ICDISRn` (R167): the security bits of the implemented interrupts; 0 to a Non-secure access and
without the Security Extensions. -/
def icdisrValue (s : State) (req : Option Cpu) (ns : Bool) (m : Nat) : Word :=
  if !s.cfg.secext || ns then 0#32 else bitmapRead s req false m (nsbOf s)

/-- The security of the interrupt can be written: it is not fixed (R168). -/
def securityProgrammable (s : State) (c : Cpu) (n : Nat) : Bool :=
  !alwaysSecure s.cfg c n && !alwaysNs s.cfg c n

/-- The status information of the interrupt is not drained (R168). -/
def notDrained (s : State) (c : Cpu) (n : Nat) : Bool :=
  pend s c n || act s c n || (decide (32 ≤ n) && actAny s n)

/-- The write changes the security of field f while its interrupt is pending or active (R168). -/
def securityConflict (s : State) (req : Option Cpu) (m : Nat) (data : Word) (f : Nat) : Bool :=
  writesField s req false (32 * m + f) fun c =>
    securityProgrammable s c (32 * m + f) && decide (nsbOf s c (32 * m + f) ≠ data.getLsbD f)
      && notDrained s c (32 * m + f)

/-- `WR ICDISRn` (R168, log 14). -/
def writeIcdisr (req : Option Cpu) (ns : Bool) (m : Nat) (data : Word) (s : State) : State :=
  if !s.cfg.secext || ns then s
  else if (List.range 32).any (securityConflict s req m data) then raise .securityNotDrained s
  else s.setNsb
    ((s.gic.nsb &&& ~~~ bitmapTargets s req false m (BitVec.allOnes 32) (securityProgrammable s))
      ||| bitmapTargets s req false m data (securityProgrammable s))

/-- `RD ICDISRn` (R167). -/
def execRdIcdisr (m : BitVec 5) (a : DistArgs) (s : State) : Result :=
  readDist a s (icdisrValue s (sourceId s.cfg a.req) a.ns m.toNat)

/-- `WR ICDISRn` (R168): the effect, when the write is performed. -/
def wrIcdisrNow (m : BitVec 5) (a : DistArgs) (data : Word) (s : State) : State :=
  sized false a.lane a.size s (writeIcdisr (sourceId s.cfg a.req) a.ns m.toNat data s)

/-- `WR ICDISRn` (R168). -/
def execWrIcdisr (m : BitVec 5) (a : DistArgs) (data : Word) (s : State) : Result :=
  writeDist a (.wrIcdisr m a data) s (wrIcdisrNow m a data s)

/-! ### Reserved -/

/-- A read of the reserved Distributor offsets 0x00C-0x07C returns 0 (R170). -/
def execRdRes00C (_m : BitVec 5) (a : DistArgs) (s : State) : Result :=
  readDist a s (0#32)

/-- A write to the reserved Distributor offsets 0x00C-0x07C is ignored (R170): the effect, when the write is performed. -/
def wrRes00CNow (_m : BitVec 5) (a : DistArgs) (_data : Word) (s : State) : State :=
  sized false a.lane a.size s (s)

/-- A write to the reserved Distributor offsets 0x00C-0x07C is ignored (R170). -/
def execWrRes00C (m : BitVec 5) (a : DistArgs) (data : Word) (s : State) : Result :=
  writeDist a (.wrRes00C m a data) s (wrRes00CNow m a data s)

end Sys2Proof.Machine
end

