-- ==== Sys2Proof/Machine/DistSgi.lean ====
section
/-! DEFINITION. Software generated interrupts, the identification registers and the ranges after them (R280 to R301). -/

namespace Sys2Proof.Machine

/-! ### ICDSGIR -/

/-- TargetListFilter and CPUTargetList select interface t (R142, R281). -/
def sgiSelects (cfg : Config) (src : Cpu) (data : Word) (t : Cpu) : Bool :=
  cpuExists cfg t &&
    match (data.extractLsb' 24 2).toNat with
    | 0 => data.getLsbD (16 + t.val)
    | 1 => decide (t ≠ src)
    | 2 => decide (t = src)
    | _ => false

/-- The SGI is sent to interface t (R281, Table 4-19): it exists there, and its security there is the
one the write asks for. -/
def sgiSent (s : State) (ns : Bool) (data : Word) (t : Cpu) : Bool :=
  let n := (data.extractLsb' 0 4).toNat
  implemented s.cfg t n &&
    (!s.cfg.secext || (if ns then nsbOf s t n else decide (nsbOf s t n = data.getLsbD 15)))

/-- `WR ICDSGIR` (R281). -/
def writeIcdsgir (req : Option Cpu) (ns : Bool) (data : Word) (s : State) : State :=
  match req with
  | none => s
  | some src =>
    if data.extractLsb' 4 11 ≠ 0#11 then raise .sgirSbz s
    else if data.extractLsb' 24 2 = 3#2 then raise .sgirFilter s
    else s.setSgip ((List.finRange 8).foldl (fun b t =>
      if sgiSelects s.cfg src data t && sgiSent s ns data t then
        putBit b (sgipIndex t (data.extractLsb' 0 4).toNat src) true
      else b) s.gic.sgip)

/-- `RD ICDSGIR`: a write-only register reads as UNKNOWN (R282). -/
def execRdIcdsgir (a : DistArgs) (s : State) : Result :=
  onDist a s (sized false a.lane a.size s (s.respond (Config.unknown32 s.tick)).drawn)

/-- `WR ICDSGIR` (R281): the effect, when the write is performed. -/
def wrIcdsgirNow (a : DistArgs) (data : Word) (s : State) : State :=
  sized false a.lane a.size s (writeIcdsgir (sourceId s.cfg a.req) a.ns data s)

/-- `WR ICDSGIR` (R281). -/
def execWrIcdsgir (a : DistArgs) (data : Word) (s : State) : Result :=
  writeDist a (.wrIcdsgir a data) s (wrIcdsgirNow a data s)

/-! ### Identification registers -/

/-- `RD ICPIDR4` (R283). -/
def execRdIcpidr4 (a : DistArgs) (s : State) : Result :=
  readDist a s (s.cfg.idRegs.icpidr4)

/-- `WR ICPIDR4`: a read-only register, the write is ignored (R294): the effect, when the write is performed. -/
def wrIcpidr4Now (a : DistArgs) (_data : Word) (s : State) : State :=
  sized false a.lane a.size s (s)

/-- `WR ICPIDR4`: a read-only register, the write is ignored (R294). -/
def execWrIcpidr4 (a : DistArgs) (data : Word) (s : State) : Result :=
  writeDist a (.wrIcpidr4 a data) s (wrIcpidr4Now a data s)

/-- `RD ICPIDR5` (R284). -/
def execRdIcpidr5 (a : DistArgs) (s : State) : Result :=
  readDist a s (s.cfg.idRegs.icpidr5)

/-- `WR ICPIDR5`: a read-only register, the write is ignored (R294): the effect, when the write is performed. -/
def wrIcpidr5Now (a : DistArgs) (_data : Word) (s : State) : State :=
  sized false a.lane a.size s (s)

/-- `WR ICPIDR5`: a read-only register, the write is ignored (R294). -/
def execWrIcpidr5 (a : DistArgs) (data : Word) (s : State) : Result :=
  writeDist a (.wrIcpidr5 a data) s (wrIcpidr5Now a data s)

/-- `RD ICPIDR6` (R285). -/
def execRdIcpidr6 (a : DistArgs) (s : State) : Result :=
  readDist a s (s.cfg.idRegs.icpidr6)

/-- `WR ICPIDR6`: a read-only register, the write is ignored (R294): the effect, when the write is performed. -/
def wrIcpidr6Now (a : DistArgs) (_data : Word) (s : State) : State :=
  sized false a.lane a.size s (s)

/-- `WR ICPIDR6`: a read-only register, the write is ignored (R294). -/
def execWrIcpidr6 (a : DistArgs) (data : Word) (s : State) : Result :=
  writeDist a (.wrIcpidr6 a data) s (wrIcpidr6Now a data s)

/-- `RD ICPIDR7` (R286). -/
def execRdIcpidr7 (a : DistArgs) (s : State) : Result :=
  readDist a s (s.cfg.idRegs.icpidr7)

/-- `WR ICPIDR7`: a read-only register, the write is ignored (R294): the effect, when the write is performed. -/
def wrIcpidr7Now (a : DistArgs) (_data : Word) (s : State) : State :=
  sized false a.lane a.size s (s)

/-- `WR ICPIDR7`: a read-only register, the write is ignored (R294). -/
def execWrIcpidr7 (a : DistArgs) (data : Word) (s : State) : Result :=
  writeDist a (.wrIcpidr7 a data) s (wrIcpidr7Now a data s)

/-- `RD ICPIDR0` (R287). -/
def execRdIcpidr0 (a : DistArgs) (s : State) : Result :=
  readDist a s (s.cfg.idRegs.icpidr0)

/-- `WR ICPIDR0`: a read-only register, the write is ignored (R294): the effect, when the write is performed. -/
def wrIcpidr0Now (a : DistArgs) (_data : Word) (s : State) : State :=
  sized false a.lane a.size s (s)

/-- `WR ICPIDR0`: a read-only register, the write is ignored (R294). -/
def execWrIcpidr0 (a : DistArgs) (data : Word) (s : State) : Result :=
  writeDist a (.wrIcpidr0 a data) s (wrIcpidr0Now a data s)

/-- `RD ICPIDR1` (R288). -/
def execRdIcpidr1 (a : DistArgs) (s : State) : Result :=
  readDist a s (s.cfg.idRegs.icpidr1)

/-- `WR ICPIDR1`: a read-only register, the write is ignored (R294): the effect, when the write is performed. -/
def wrIcpidr1Now (a : DistArgs) (_data : Word) (s : State) : State :=
  sized false a.lane a.size s (s)

/-- `WR ICPIDR1`: a read-only register, the write is ignored (R294). -/
def execWrIcpidr1 (a : DistArgs) (data : Word) (s : State) : Result :=
  writeDist a (.wrIcpidr1 a data) s (wrIcpidr1Now a data s)

/-- `RD ICPIDR2` (R291). -/
def execRdIcpidr2 (a : DistArgs) (s : State) : Result :=
  readDist a s (icpidr2Value s.cfg)

/-- `WR ICPIDR2`: a read-only register, the write is ignored (R294): the effect, when the write is performed. -/
def wrIcpidr2Now (a : DistArgs) (_data : Word) (s : State) : State :=
  sized false a.lane a.size s (s)

/-- `WR ICPIDR2`: a read-only register, the write is ignored (R294). -/
def execWrIcpidr2 (a : DistArgs) (data : Word) (s : State) : Result :=
  writeDist a (.wrIcpidr2 a data) s (wrIcpidr2Now a data s)

/-- `RD ICPIDR3` (R289). -/
def execRdIcpidr3 (a : DistArgs) (s : State) : Result :=
  readDist a s (s.cfg.idRegs.icpidr3)

/-- `WR ICPIDR3`: a read-only register, the write is ignored (R294): the effect, when the write is performed. -/
def wrIcpidr3Now (a : DistArgs) (_data : Word) (s : State) : State :=
  sized false a.lane a.size s (s)

/-- `WR ICPIDR3`: a read-only register, the write is ignored (R294). -/
def execWrIcpidr3 (a : DistArgs) (data : Word) (s : State) : Result :=
  writeDist a (.wrIcpidr3 a data) s (wrIcpidr3Now a data s)

/-- `RD ICCIDR0` (R293). -/
def execRdIccidr0 (a : DistArgs) (s : State) : Result :=
  readDist a s (s.cfg.idRegs.iccidr0)

/-- `WR ICCIDR0`: a read-only register, the write is ignored (R294): the effect, when the write is performed. -/
def wrIccidr0Now (a : DistArgs) (_data : Word) (s : State) : State :=
  sized false a.lane a.size s (s)

/-- `WR ICCIDR0`: a read-only register, the write is ignored (R294). -/
def execWrIccidr0 (a : DistArgs) (data : Word) (s : State) : Result :=
  writeDist a (.wrIccidr0 a data) s (wrIccidr0Now a data s)

/-- `RD ICCIDR1` (R295). -/
def execRdIccidr1 (a : DistArgs) (s : State) : Result :=
  readDist a s (s.cfg.idRegs.iccidr1)

/-- `WR ICCIDR1`: a read-only register, the write is ignored (R294): the effect, when the write is performed. -/
def wrIccidr1Now (a : DistArgs) (_data : Word) (s : State) : State :=
  sized false a.lane a.size s (s)

/-- `WR ICCIDR1`: a read-only register, the write is ignored (R294). -/
def execWrIccidr1 (a : DistArgs) (data : Word) (s : State) : Result :=
  writeDist a (.wrIccidr1 a data) s (wrIccidr1Now a data s)

/-- `RD ICCIDR2` (R296). -/
def execRdIccidr2 (a : DistArgs) (s : State) : Result :=
  readDist a s (s.cfg.idRegs.iccidr2)

/-- `WR ICCIDR2`: a read-only register, the write is ignored (R294): the effect, when the write is performed. -/
def wrIccidr2Now (a : DistArgs) (_data : Word) (s : State) : State :=
  sized false a.lane a.size s (s)

/-- `WR ICCIDR2`: a read-only register, the write is ignored (R294). -/
def execWrIccidr2 (a : DistArgs) (data : Word) (s : State) : Result :=
  writeDist a (.wrIccidr2 a data) s (wrIccidr2Now a data s)

/-- `RD ICCIDR3` (R297). -/
def execRdIccidr3 (a : DistArgs) (s : State) : Result :=
  readDist a s (s.cfg.idRegs.iccidr3)

/-- `WR ICCIDR3`: a read-only register, the write is ignored (R294): the effect, when the write is performed. -/
def wrIccidr3Now (a : DistArgs) (_data : Word) (s : State) : State :=
  sized false a.lane a.size s (s)

/-- `WR ICCIDR3`: a read-only register, the write is ignored (R294). -/
def execWrIccidr3 (a : DistArgs) (data : Word) (s : State) : Result :=
  writeDist a (.wrIccidr3 a data) s (wrIccidr3Now a data s)

/-! ### IMPLEMENTATION DEFINED and reserved ranges -/

/-- A read of the IMPLEMENTATION DEFINED Distributor offsets 0xD00-0xDFC (R300). -/
def execRdImpD00 (_m : BitVec 6) (a : DistArgs) (s : State) : Result :=
  onDist a s (sized false a.lane a.size s (s.respond (impdefValue s)).drawn)

/-- A write to the IMPLEMENTATION DEFINED Distributor offsets 0xD00-0xDFC is ignored (R300): the effect, when the write is performed. -/
def wrImpD00Now (_m : BitVec 6) (a : DistArgs) (_data : Word) (s : State) : State :=
  sized false a.lane a.size s (s)

/-- A write to the IMPLEMENTATION DEFINED Distributor offsets 0xD00-0xDFC is ignored (R300). -/
def execWrImpD00 (m : BitVec 6) (a : DistArgs) (data : Word) (s : State) : Result :=
  writeDist a (.wrImpD00 m a data) s (wrImpD00Now m a data s)

/-- A read of the reserved Distributor offsets 0xE00-0xEFC returns 0 (R301). -/
def execRdResE00 (_m : BitVec 6) (a : DistArgs) (s : State) : Result :=
  readDist a s (0#32)

/-- A write to the reserved Distributor offsets 0xE00-0xEFC is ignored (R301): the effect, when the write is performed. -/
def wrResE00Now (_m : BitVec 6) (a : DistArgs) (_data : Word) (s : State) : State :=
  sized false a.lane a.size s (s)

/-- A write to the reserved Distributor offsets 0xE00-0xEFC is ignored (R301). -/
def execWrResE00 (m : BitVec 6) (a : DistArgs) (data : Word) (s : State) : Result :=
  writeDist a (.wrResE00 m a data) s (wrResE00Now m a data s)

/-- A read of the reserved Distributor offsets 0xF04-0xFCC returns 0 (R301). -/
def execRdResF04 (_m : BitVec 6) (a : DistArgs) (s : State) : Result :=
  readDist a s (0#32)

/-- A write to the reserved Distributor offsets 0xF04-0xFCC is ignored (R301): the effect, when the write is performed. -/
def wrResF04Now (_m : BitVec 6) (a : DistArgs) (_data : Word) (s : State) : State :=
  sized false a.lane a.size s (s)

/-- A write to the reserved Distributor offsets 0xF04-0xFCC is ignored (R301). -/
def execWrResF04 (m : BitVec 6) (a : DistArgs) (data : Word) (s : State) : Result :=
  writeDist a (.wrResF04 m a data) s (wrResF04Now m a data s)

end Sys2Proof.Machine
end

