-- ==== Sys2Proof/Machine/Dispatch.lean ====
section
/-! DEFINITION. The meaning of every instruction, one arm for each row of spec/opcode_table.json. -/

namespace Sys2Proof.Machine

def exec (i : Instr) (s : State) : Host.Outcome State Fault Refusal :=
  match i with
  | .rdIcddcr a => Sys2Proof.Machine.execRdIcddcr a s
  | .wrIcddcr a data => Sys2Proof.Machine.execWrIcddcr a data s
  | .rdIcdictr a => Sys2Proof.Machine.execRdIcdictr a s
  | .wrIcdictr a data => Sys2Proof.Machine.execWrIcdictr a data s
  | .rdIcdiidr a => Sys2Proof.Machine.execRdIcdiidr a s
  | .wrIcdiidr a data => Sys2Proof.Machine.execWrIcdiidr a data s
  | .rdRes00C m a => Sys2Proof.Machine.execRdRes00C m a s
  | .wrRes00C m a data => Sys2Proof.Machine.execWrRes00C m a data s
  | .rdIcdisr m a => Sys2Proof.Machine.execRdIcdisr m a s
  | .wrIcdisr m a data => Sys2Proof.Machine.execWrIcdisr m a data s
  | .rdIcdiser m a => Sys2Proof.Machine.execRdIcdiser m a s
  | .wrIcdiser m a data => Sys2Proof.Machine.execWrIcdiser m a data s
  | .rdIcdicer m a => Sys2Proof.Machine.execRdIcdicer m a s
  | .wrIcdicer m a data => Sys2Proof.Machine.execWrIcdicer m a data s
  | .rdIcdispr m a => Sys2Proof.Machine.execRdIcdispr m a s
  | .wrIcdispr m a data => Sys2Proof.Machine.execWrIcdispr m a data s
  | .rdIcdicpr m a => Sys2Proof.Machine.execRdIcdicpr m a s
  | .wrIcdicpr m a data => Sys2Proof.Machine.execWrIcdicpr m a data s
  | .rdIcdabr m a => Sys2Proof.Machine.execRdIcdabr m a s
  | .wrIcdabr m a data => Sys2Proof.Machine.execWrIcdabr m a data s
  | .rdRes380 m a => Sys2Proof.Machine.execRdRes380 m a s
  | .wrRes380 m a data => Sys2Proof.Machine.execWrRes380 m a data s
  | .rdRes7FC a => Sys2Proof.Machine.execRdRes7FC a s
  | .wrRes7FC a data => Sys2Proof.Machine.execWrRes7FC a data s
  | .rdIcdipr m a => Sys2Proof.Machine.execRdIcdipr m a s
  | .wrIcdipr m a data => Sys2Proof.Machine.execWrIcdipr m a data s
  | .rdResBFC a => Sys2Proof.Machine.execRdResBFC a s
  | .wrResBFC a data => Sys2Proof.Machine.execWrResBFC a data s
  | .rdIcdiptrPriv m a => Sys2Proof.Machine.execRdIcdiptrPriv m a s
  | .wrIcdiptrPriv m a data => Sys2Proof.Machine.execWrIcdiptrPriv m a data s
  | .rdIcdiptrSpi m a => Sys2Proof.Machine.execRdIcdiptrSpi m a s
  | .wrIcdiptrSpi m a data => Sys2Proof.Machine.execWrIcdiptrSpi m a data s
  | .rdIcdicfr m a => Sys2Proof.Machine.execRdIcdicfr m a s
  | .wrIcdicfr m a data => Sys2Proof.Machine.execWrIcdicfr m a data s
  | .rdImpD00 m a => Sys2Proof.Machine.execRdImpD00 m a s
  | .wrImpD00 m a data => Sys2Proof.Machine.execWrImpD00 m a data s
  | .rdResE00 m a => Sys2Proof.Machine.execRdResE00 m a s
  | .wrResE00 m a data => Sys2Proof.Machine.execWrResE00 m a data s
  | .rdIcdsgir a => Sys2Proof.Machine.execRdIcdsgir a s
  | .wrIcdsgir a data => Sys2Proof.Machine.execWrIcdsgir a data s
  | .rdIcpidr4 a => Sys2Proof.Machine.execRdIcpidr4 a s
  | .wrIcpidr4 a data => Sys2Proof.Machine.execWrIcpidr4 a data s
  | .rdIcpidr5 a => Sys2Proof.Machine.execRdIcpidr5 a s
  | .wrIcpidr5 a data => Sys2Proof.Machine.execWrIcpidr5 a data s
  | .rdIcpidr6 a => Sys2Proof.Machine.execRdIcpidr6 a s
  | .wrIcpidr6 a data => Sys2Proof.Machine.execWrIcpidr6 a data s
  | .rdIcpidr7 a => Sys2Proof.Machine.execRdIcpidr7 a s
  | .wrIcpidr7 a data => Sys2Proof.Machine.execWrIcpidr7 a data s
  | .rdIcpidr0 a => Sys2Proof.Machine.execRdIcpidr0 a s
  | .wrIcpidr0 a data => Sys2Proof.Machine.execWrIcpidr0 a data s
  | .rdIcpidr1 a => Sys2Proof.Machine.execRdIcpidr1 a s
  | .wrIcpidr1 a data => Sys2Proof.Machine.execWrIcpidr1 a data s
  | .rdIcpidr2 a => Sys2Proof.Machine.execRdIcpidr2 a s
  | .wrIcpidr2 a data => Sys2Proof.Machine.execWrIcpidr2 a data s
  | .rdIcpidr3 a => Sys2Proof.Machine.execRdIcpidr3 a s
  | .wrIcpidr3 a data => Sys2Proof.Machine.execWrIcpidr3 a data s
  | .rdIccidr0 a => Sys2Proof.Machine.execRdIccidr0 a s
  | .wrIccidr0 a data => Sys2Proof.Machine.execWrIccidr0 a data s
  | .rdIccidr1 a => Sys2Proof.Machine.execRdIccidr1 a s
  | .wrIccidr1 a data => Sys2Proof.Machine.execWrIccidr1 a data s
  | .rdIccidr2 a => Sys2Proof.Machine.execRdIccidr2 a s
  | .wrIccidr2 a data => Sys2Proof.Machine.execWrIccidr2 a data s
  | .rdIccidr3 a => Sys2Proof.Machine.execRdIccidr3 a s
  | .wrIccidr3 a data => Sys2Proof.Machine.execWrIccidr3 a data s
  | .rdResF04 m a => Sys2Proof.Machine.execRdResF04 m a s
  | .wrResF04 m a data => Sys2Proof.Machine.execWrResF04 m a data s
  | .rdIccicr a => Sys2Proof.Machine.execRdIccicr a s
  | .wrIccicr a data => Sys2Proof.Machine.execWrIccicr a data s
  | .rdIccpmr a => Sys2Proof.Machine.execRdIccpmr a s
  | .wrIccpmr a data => Sys2Proof.Machine.execWrIccpmr a data s
  | .rdIccbpr a => Sys2Proof.Machine.execRdIccbpr a s
  | .wrIccbpr a data => Sys2Proof.Machine.execWrIccbpr a data s
  | .rdIcciar a => Sys2Proof.Machine.execRdIcciar a s
  | .wrIcciar a data => Sys2Proof.Machine.execWrIcciar a data s
  | .rdIcceoir a => Sys2Proof.Machine.execRdIcceoir a s
  | .wrIcceoir a data => Sys2Proof.Machine.execWrIcceoir a data s
  | .rdIccrpr a => Sys2Proof.Machine.execRdIccrpr a s
  | .wrIccrpr a data => Sys2Proof.Machine.execWrIccrpr a data s
  | .rdIcchpir a => Sys2Proof.Machine.execRdIcchpir a s
  | .wrIcchpir a data => Sys2Proof.Machine.execWrIcchpir a data s
  | .rdIccabpr a => Sys2Proof.Machine.execRdIccabpr a s
  | .wrIccabpr a data => Sys2Proof.Machine.execWrIccabpr a data s
  | .rdRes20 m a => Sys2Proof.Machine.execRdRes20 m a s
  | .wrRes20 m a data => Sys2Proof.Machine.execWrRes20 m a data s
  | .rdImp40 m a => Sys2Proof.Machine.execRdImp40 m a s
  | .wrImp40 m a data => Sys2Proof.Machine.execWrImp40 m a data s
  | .rdImp80 m a => Sys2Proof.Machine.execRdImp80 m a s
  | .wrImp80 m a data => Sys2Proof.Machine.execWrImp80 m a data s
  | .rdImpC0 m a => Sys2Proof.Machine.execRdImpC0 m a s
  | .wrImpC0 m a data => Sys2Proof.Machine.execWrImpC0 m a data s
  | .rdIcciidr a => Sys2Proof.Machine.execRdIcciidr a s
  | .wrIcciidr a data => Sys2Proof.Machine.execWrIcciidr a data s
  | .rdResD0 m a => Sys2Proof.Machine.execRdResD0 m a s
  | .wrResD0 m a data => Sys2Proof.Machine.execWrResD0 m a data s
  | .rdResE0 m a => Sys2Proof.Machine.execRdResE0 m a s
  | .wrResE0 m a data => Sys2Proof.Machine.execWrResE0 m a data s

end Sys2Proof.Machine
end

