-- ==== Sys2Proof/Machine/ApplyWrite.lean ====
section
/-! DEFINITION. APPLY_WRITE: performing the oldest queued Distributor write (R391). -/

namespace Sys2Proof.Machine

/-- The effect of a queued Distributor write (R391). Only Distributor writes are ever queued: every
other instruction changes nothing here. -/
def performWrite (i : Instr) (s : State) : State :=
  match i with
  | .rdIcddcr _ => s
  | .wrIcddcr a data => wrIcddcrNow a data s
  | .rdIcdictr _ => s
  | .wrIcdictr a data => wrIcdictrNow a data s
  | .rdIcdiidr _ => s
  | .wrIcdiidr a data => wrIcdiidrNow a data s
  | .rdRes00C _ _ => s
  | .wrRes00C m a data => wrRes00CNow m a data s
  | .rdIcdisr _ _ => s
  | .wrIcdisr m a data => wrIcdisrNow m a data s
  | .rdIcdiser _ _ => s
  | .wrIcdiser m a data => wrIcdiserNow m a data s
  | .rdIcdicer _ _ => s
  | .wrIcdicer m a data => wrIcdicerNow m a data s
  | .rdIcdispr _ _ => s
  | .wrIcdispr m a data => wrIcdisprNow m a data s
  | .rdIcdicpr _ _ => s
  | .wrIcdicpr m a data => wrIcdicprNow m a data s
  | .rdIcdabr _ _ => s
  | .wrIcdabr m a data => wrIcdabrNow m a data s
  | .rdRes380 _ _ => s
  | .wrRes380 m a data => wrRes380Now m a data s
  | .rdRes7FC _ => s
  | .wrRes7FC a data => wrRes7FCNow a data s
  | .rdIcdipr _ _ => s
  | .wrIcdipr m a data => wrIcdiprNow m a data s
  | .rdResBFC _ => s
  | .wrResBFC a data => wrResBFCNow a data s
  | .rdIcdiptrPriv _ _ => s
  | .wrIcdiptrPriv m a data => wrIcdiptrPrivNow m a data s
  | .rdIcdiptrSpi _ _ => s
  | .wrIcdiptrSpi m a data => wrIcdiptrSpiNow m a data s
  | .rdIcdicfr _ _ => s
  | .wrIcdicfr m a data => wrIcdicfrNow m a data s
  | .rdImpD00 _ _ => s
  | .wrImpD00 m a data => wrImpD00Now m a data s
  | .rdResE00 _ _ => s
  | .wrResE00 m a data => wrResE00Now m a data s
  | .rdIcdsgir _ => s
  | .wrIcdsgir a data => wrIcdsgirNow a data s
  | .rdIcpidr4 _ => s
  | .wrIcpidr4 a data => wrIcpidr4Now a data s
  | .rdIcpidr5 _ => s
  | .wrIcpidr5 a data => wrIcpidr5Now a data s
  | .rdIcpidr6 _ => s
  | .wrIcpidr6 a data => wrIcpidr6Now a data s
  | .rdIcpidr7 _ => s
  | .wrIcpidr7 a data => wrIcpidr7Now a data s
  | .rdIcpidr0 _ => s
  | .wrIcpidr0 a data => wrIcpidr0Now a data s
  | .rdIcpidr1 _ => s
  | .wrIcpidr1 a data => wrIcpidr1Now a data s
  | .rdIcpidr2 _ => s
  | .wrIcpidr2 a data => wrIcpidr2Now a data s
  | .rdIcpidr3 _ => s
  | .wrIcpidr3 a data => wrIcpidr3Now a data s
  | .rdIccidr0 _ => s
  | .wrIccidr0 a data => wrIccidr0Now a data s
  | .rdIccidr1 _ => s
  | .wrIccidr1 a data => wrIccidr1Now a data s
  | .rdIccidr2 _ => s
  | .wrIccidr2 a data => wrIccidr2Now a data s
  | .rdIccidr3 _ => s
  | .wrIccidr3 a data => wrIccidr3Now a data s
  | .rdResF04 _ _ => s
  | .wrResF04 m a data => wrResF04Now m a data s
  | .rdIccicr _ => s
  | .wrIccicr _ _ => s
  | .rdIccpmr _ => s
  | .wrIccpmr _ _ => s
  | .rdIccbpr _ => s
  | .wrIccbpr _ _ => s
  | .rdIcciar _ => s
  | .wrIcciar _ _ => s
  | .rdIcceoir _ => s
  | .wrIcceoir _ _ => s
  | .rdIccrpr _ => s
  | .wrIccrpr _ _ => s
  | .rdIcchpir _ => s
  | .wrIcchpir _ _ => s
  | .rdIccabpr _ => s
  | .wrIccabpr _ _ => s
  | .rdRes20 _ _ => s
  | .wrRes20 _ _ _ => s
  | .rdImp40 _ _ => s
  | .wrImp40 _ _ _ => s
  | .rdImp80 _ _ => s
  | .wrImp80 _ _ _ => s
  | .rdImpC0 _ _ => s
  | .wrImpC0 _ _ _ => s
  | .rdIcciidr _ => s
  | .wrIcciidr _ _ => s
  | .rdResD0 _ _ => s
  | .wrResD0 _ _ _ => s
  | .rdResE0 _ _ => s
  | .wrResE0 _ _ _ => s

/-- APPLY_WRITE (R391): the oldest write of WQ is performed on the current state. With an empty queue
the step does not apply and changes nothing (log 25). -/
def applyWrite (s : State) : State :=
  match s.gic.wq with
  | [] => s
  | i :: rest => performWrite i (s.setWq rest)

end Sys2Proof.Machine
end

