-- ==== Sys2Proof/Machine/Events.lean ====
section
/-! DEFINITION. The input events and the internal steps of the GIC (R380 to R391), and the step the
GIC takes by itself when no input waits. -/

namespace Sys2Proof.Machine

/-- What an operation other than a reset does once UNPRED is set to the part of the state nothing is
promised about (R13, log 6). -/
def unlessUnpred (s : State) (effect : State) : State := if s.unpred then havoc s else effect

/-! ### Peripheral interrupt lines -/

/-- The peripheral interrupt (c,n) has a line: it is implemented and no SGI (R33, R381). -/
def hasLine (cfg : Config) (c : Cpu) (n : Nat) : Bool := decide (16 ≤ n) && implemented cfg c n

/-- LINE_RISE(c,n) (R381). A line that is already HIGH does not rise (log 9). -/
def lineRise (s : State) (c : Cpu) (n : Nat) : State :=
  if lineOf s c n then s
  else
    let t := s.setLine (putBit s.line (slot c n) true)
    unlessUnpred t
      (if edgeOf t c n && fwdEn t c n then t.setLatch (putBit t.gic.latch (slot c n) true) else t)

/-- LINE_FALL(c,n) (R382). -/
def lineFall (s : State) (c : Cpu) (n : Nat) : State :=
  if lineOf s c n then
    let t := s.setLine (putBit s.line (slot c n) false)
    unlessUnpred t t
  else s

/-! ### CFGSDISABLE and the legacy inputs -/

/-- CFGSDISABLE_SET(v) (R383). -/
def cfgsdisableSet (s : State) (v : Bool) : State :=
  let t := { s with cfgsdisable := v }
  unlessUnpred t t

/-- LEGACY_IRQ(c,v) (R384). -/
def legacyIrqSet (s : State) (c : Cpu) (v : Bool) : State :=
  let t := { s with legacyIrq := putBit s.legacyIrq c.val v }
  unlessUnpred t t

/-- LEGACY_FIQ(c,v) (R384). -/
def legacyFiqSet (s : State) (c : Cpu) (v : Bool) : State :=
  let t := { s with legacyFiq := putBit s.legacyFiq c.val v }
  unlessUnpred t t

/-! ### Reset and the internal steps -/

/-- RESET (R387): every variable of the GIC takes its value of R54 and UNPRED is cleared; the inputs
and the operations still to come belong to the environment and stay. -/
def resetGic (s : State) : State := { s with gic := Gic.reset s.cfg, unpred := false }

/-- EVALUATE(c) (R385): the outputs of interface c take the values of Next(c); FIQ(c) exists only with
the Security Extensions. -/
def evaluate (s : State) (c : Cpu) : State :=
  let next := nextOutputs s c
  let i := s.ifc c
  if s.cfg.secext then (s.withIfc c { i with irq := next.1, fiq := next.2 }).drawn
  else (s.withIfc c { i with irq := next.1 }).drawn

/-- EVALUATE(c) for every interface that exists, in order. -/
def evaluateAll (s : State) : State :=
  (List.finRange 8).foldl (fun s c => if cpuExists s.cfg c then evaluate s c else s) s

/-- Every ACKWIN(n) <- {} (R388). -/
def closeAllWindows (s : State) : State :=
  s.setIfcs (perCpu fun c => { s.ifc c with ackWindow := 0#1244 })

/-- The step of a GIC whose input queue is empty (R390, log 3): the oldest queued write is performed,
the double-acknowledge windows close and the outputs are evaluated. -/
def idle (s : State) : State :=
  unlessUnpred s
    (let t := applyWrite s
     if t.unpred then t else evaluateAll (closeAllWindows t))

/-! ### One event -/

/-- An input event or internal step. One of a signal or interface the system does not have is refused
(log 10). -/
def event (x : Input) (s : State) : Result :=
  match x with
  | .access _ _ => .next s
  | .mem _ => .next s
  | .lineRise c n => if hasLine s.cfg c n then .next (lineRise s c n) else .refused .noSuchInput
  | .lineFall c n => if hasLine s.cfg c n then .next (lineFall s c n) else .refused .noSuchInput
  | .cfgsdisableSet v => .next (cfgsdisableSet s v)
  | .legacyIrq c v =>
    if cpuExists s.cfg c && passThrough s.cfg c then .next (legacyIrqSet s c v)
    else .refused .noSuchInput
  | .legacyFiq c v =>
    if cpuExists s.cfg c && passThrough s.cfg c && s.cfg.secext then .next (legacyFiqSet s c v)
    else .refused .noSuchInput
  | .reset => .next (resetGic s)
  | .evaluate c =>
    if cpuExists s.cfg c then .next (unlessUnpred s (evaluate s c)) else .refused .noSuchInput
  | .closeAckWindow n =>
    .next (unlessUnpred s (if 32 ≤ n && doubleAckAllowed s.cfg then closeAckWindow s n else s))
  | .applyWrite => .next (unlessUnpred s (applyWrite s))

/-! ### Fetch -/

/-- The oldest waiting operation and the state without it (R95). -/
def takeInput (s : State) : Option (Input × State) :=
  match s.inputs with
  | [] => none
  | x :: rest => some (x, { s with inputs := rest })

/-- The state with an operation placed before all waiting ones. -/
def placeInput (s : State) (x : Input) : State := { s with inputs := x :: s.inputs }

end Sys2Proof.Machine
end

