-- ==== Sys2Proof/Machine/Outputs.lean ====
section
/-! DEFINITION. The output pins (R386): functions of the state, with the pass-through of the legacy
inputs. -/

namespace Sys2Proof.Machine

/-- IRQdriven(c) (R386, Table 4-26): the GIC drives the IRQ pin. -/
def irqDriven (s : State) (c : Cpu) : Bool :=
  if s.cfg.secext then (s.ifc c).enableNS || ((s.ifc c).enableS && !(s.ifc c).fiqEn)
  else (s.ifc c).enableS

/-- FIQdriven(c) (R386, Table 4-26): the GIC drives the FIQ pin. -/
def fiqDriven (s : State) (c : Cpu) : Bool :=
  s.cfg.secext && (s.ifc c).fiqEn && (s.ifc c).enableS

/-- IRQpin(c) (R386). -/
def irqPin (s : State) (c : Cpu) : Bool :=
  if passThrough s.cfg c && !irqDriven s c then s.legacyIrq.getLsbD c.val else (s.ifc c).irq

/-- FIQpin(c) (R386), which only a GIC with the Security Extensions has. -/
def fiqPin (s : State) (c : Cpu) : Bool :=
  if !s.cfg.secext then false
  else if passThrough s.cfg c && !fiqDriven s c then s.legacyFiq.getLsbD c.val
  else (s.ifc c).fiq

end Sys2Proof.Machine
end

