-- ==== Sys2Proof/Machine/Step.lean ====
section
/-! DEFINITION. One step of the machine: the oldest waiting operation is carried out; a GIC with no
operation waiting takes its internal steps (log 2, log 3). -/

namespace Sys2Proof.Machine

/-- The outcome of a register access given as access word and data word (R120, R121). -/
def access (aw data : Word) (s : State) : Result :=
  match decode aw data with
  | .error why => .refused (.undecodable why)
  | .ok i => exec i s

/-- The outcome of a read or write of the memory map (R11, R12, R81). -/
def memAccess (m : MemAccess) (s : State) : Result :=
  match memAccessWord s.cfg m with
  | none => .refused .notGicAddress
  | some aw => access aw m.data s

/-- One step (R94, R95). -/
def step (s : State) : Host.Outcome State Fault Refusal :=
  match takeInput s with
  | none => .next (idle s)
  | some (.access aw data, t) => access aw data t
  | some (.mem m, t) => memAccess m t
  | some (x, t) => event x t

/-- The state with the instruction of `nbits` bits `w` placed as the next operation: access word in
bits [31:0], data word in bits [63:32] (log 2). -/
def State.withFetchWord (s : State) (nbits w : Nat) : State :=
  let v := w % 2 ^ nbits
  placeInput s (.access (BitVec.ofNat 32 v) (BitVec.ofNat 32 (v / 2 ^ 32)))

end Sys2Proof.Machine
end

