-- ==== Sys2Proof/Safety.lean ====
section
/-! DEFINITION. The invariants of R56, and what an access of one security may and may not change, in
the terms the statements use. -/

namespace Sys2Proof.Machine

/-- R56(1): no identifier occurs twice in AS(c). -/
def ActiveNodup (s : State) : Prop := ∀ c, ((s.ifc c).active.map ActiveEntry.id).Nodup

/-- R56(2): without double acknowledge an SPI is active on at most one interface, and no window is
open. -/
def ActiveOnce (s : State) : Prop :=
  doubleAckAllowed s.cfg = false → ∀ c n, 32 ≤ n →
    (∀ c', act s c n = true → act s c' n = true → c = c') ∧
      (s.ifc c).ackWindow.getLsbD (slot c n) = false

/-- R56(3): what is active is implemented, with an identifier up to 1019, on an interface that
exists. -/
def ActiveImplemented (s : State) : Prop :=
  ∀ c, ∀ e ∈ (s.ifc c).active,
    implemented s.cfg c e.id = true ∧ e.id ≤ 1019 ∧ cpuExists s.cfg c = true

/-- R56(4): stored priorities and masks have no unimplemented bit. -/
def PrioritiesMasked (s : State) : Prop :=
  (∀ k, getByte s.gic.pri k &&& ~~~ pMask s.cfg = 0#8) ∧
    ∀ c, (s.ifc c).pmr &&& ~~~ pMask s.cfg = 0#8

/-- R56(5): no binary point is below the minimum. -/
def BinaryPointsSaturated (s : State) : Prop :=
  ∀ c, minimumBinaryPoint s.cfg ≤ (s.ifc c).bprS.toNat ∧
    minimumBinaryPoint s.cfg ≤ (s.ifc c).bprNS.toNat

/-- R56(6): no CPU targets field names an interface that does not exist. -/
def TargetsExist (s : State) : Prop := ∀ k, getByte s.gic.tgt k &&& ~~~ targetMask s.cfg = 0#8

/-- R56(7): without the Security Extensions their controls are 0 and FIQ is not asserted. -/
def NoSecurityState (s : State) : Prop :=
  s.cfg.secext = false → ∀ c,
    (s.ifc c).enableNS = false ∧ (s.ifc c).ackCtl = false ∧ (s.ifc c).fiqEn = false ∧
      (s.ifc c).sbpr = false ∧ (s.ifc c).fiq = false

/-- R56(8): LATCH and SGIP hold nothing for an interrupt that is not implemented; neither does
ACKWIN. -/
def PendingImplemented (s : State) : Prop :=
  (∀ c n, 16 ≤ n → latchOf s c n = true → implemented s.cfg c n = true) ∧
  (∀ c n src, sgipOf s c n src = true → implemented s.cfg c n = true) ∧
  (∀ c n, 32 ≤ n → (s.ifc c).ackWindow.getLsbD (slot c n) = true →
    implemented s.cfg c n = true ∧ cpuExists s.cfg c = true)

/-- Without delayed writes the queue of writes does not exist (R391). -/
def QueueOnlyDelayed (s : State) : Prop := writesDelayed s.cfg = false → s.gic.wq = []

/-- The invariants of R56 together, with the one of the write queue. -/
structure RegistersOk (s : State) : Prop where
  activeNodup : ActiveNodup s
  activeOnce : ActiveOnce s
  activeImplemented : ActiveImplemented s
  prioritiesMasked : PrioritiesMasked s
  binaryPoints : BinaryPointsSaturated s
  targetsExist : TargetsExist s
  noSecurityState : NoSecurityState s
  pendingImplemented : PendingImplemented s
  queue : QueueOnlyDelayed s

/-- The invariant of the machine: the rules of R56 hold while UNPRED is clear. -/
def Inv (s : State) : Prop := s.unpred = false → RegistersOk s

/-! ### Security -/

/-- The environment keeps ACCESS_SEC (R102, log 19): the access's attribute is one its processor can
carry. -/
def attributeAllowed (cfg : Config) (req : Option Cpu) (ns : Bool) : Bool :=
  match sourceId cfg req with
  | none => true
  | some c =>
    match cfg.accessSec[c] with
    | .both => true
    | .secureOnly => !ns
    | .nonsecureOnly => ns

/-- The configuration registers of interrupt (c,n) have the same content in two states. -/
def SameConfig (s t : State) (c : Cpu) (n : Nat) : Prop :=
  nsbOf t c n = nsbOf s c n ∧ enOf t c n = enOf s c n ∧ priOf t c n = priOf s c n ∧
    tgtOf t n = tgtOf s n ∧ edgeOf t c n = edgeOf s c n

/-- The pending state of interrupt (c,n) that is stored has the same content in two states. -/
def SamePending (s t : State) (c : Cpu) (n : Nat) : Prop :=
  latchOf t c n = latchOf s c n ∧ ∀ src, sgipOf t c n src = sgipOf s c n src

/-- The controls that only Secure accesses reach (R37, R39, R106) are the same in two states. -/
def SameSecureControls (s t : State) : Prop :=
  t.gic.dcrS = s.gic.dcrS ∧ ∀ c,
    (t.ifc c).enableS = (s.ifc c).enableS ∧ (t.ifc c).ackCtl = (s.ifc c).ackCtl ∧
    (t.ifc c).fiqEn = (s.ifc c).fiqEn ∧ (t.ifc c).sbpr = (s.ifc c).sbpr ∧
    (t.ifc c).bprS = (s.ifc c).bprS

/-! ### Accesses, in the terms of the statements -/

/-- What every access carries, without its register and data (R12). -/
structure AccessInfo where
  lane : BitVec 2
  size : AccessSize
  ns : Bool
  req : Option Cpu
  /-- The CPU interface, for an access to one. -/
  ifc : Option Cpu
  write : Bool
  /-- The register is ICDIPR or ICDIPTR, which are byte accessible (R83). -/
  bytes : Bool
  deriving DecidableEq, Repr

/-- What an access carries. -/
def accessInfo : Instr → AccessInfo
  | .rdIcddcr a => ⟨a.lane, a.size, a.ns, a.req, none, false, false⟩
  | .wrIcddcr a _ => ⟨a.lane, a.size, a.ns, a.req, none, true, false⟩
  | .rdIcdictr a => ⟨a.lane, a.size, a.ns, a.req, none, false, false⟩
  | .wrIcdictr a _ => ⟨a.lane, a.size, a.ns, a.req, none, true, false⟩
  | .rdIcdiidr a => ⟨a.lane, a.size, a.ns, a.req, none, false, false⟩
  | .wrIcdiidr a _ => ⟨a.lane, a.size, a.ns, a.req, none, true, false⟩
  | .rdRes00C _ a => ⟨a.lane, a.size, a.ns, a.req, none, false, false⟩
  | .wrRes00C _ a _ => ⟨a.lane, a.size, a.ns, a.req, none, true, false⟩
  | .rdIcdisr _ a => ⟨a.lane, a.size, a.ns, a.req, none, false, false⟩
  | .wrIcdisr _ a _ => ⟨a.lane, a.size, a.ns, a.req, none, true, false⟩
  | .rdIcdiser _ a => ⟨a.lane, a.size, a.ns, a.req, none, false, false⟩
  | .wrIcdiser _ a _ => ⟨a.lane, a.size, a.ns, a.req, none, true, false⟩
  | .rdIcdicer _ a => ⟨a.lane, a.size, a.ns, a.req, none, false, false⟩
  | .wrIcdicer _ a _ => ⟨a.lane, a.size, a.ns, a.req, none, true, false⟩
  | .rdIcdispr _ a => ⟨a.lane, a.size, a.ns, a.req, none, false, false⟩
  | .wrIcdispr _ a _ => ⟨a.lane, a.size, a.ns, a.req, none, true, false⟩
  | .rdIcdicpr _ a => ⟨a.lane, a.size, a.ns, a.req, none, false, false⟩
  | .wrIcdicpr _ a _ => ⟨a.lane, a.size, a.ns, a.req, none, true, false⟩
  | .rdIcdabr _ a => ⟨a.lane, a.size, a.ns, a.req, none, false, false⟩
  | .wrIcdabr _ a _ => ⟨a.lane, a.size, a.ns, a.req, none, true, false⟩
  | .rdRes380 _ a => ⟨a.lane, a.size, a.ns, a.req, none, false, false⟩
  | .wrRes380 _ a _ => ⟨a.lane, a.size, a.ns, a.req, none, true, false⟩
  | .rdRes7FC a => ⟨a.lane, a.size, a.ns, a.req, none, false, false⟩
  | .wrRes7FC a _ => ⟨a.lane, a.size, a.ns, a.req, none, true, false⟩
  | .rdIcdipr _ a => ⟨a.lane, a.size, a.ns, a.req, none, false, true⟩
  | .wrIcdipr _ a _ => ⟨a.lane, a.size, a.ns, a.req, none, true, true⟩
  | .rdResBFC a => ⟨a.lane, a.size, a.ns, a.req, none, false, false⟩
  | .wrResBFC a _ => ⟨a.lane, a.size, a.ns, a.req, none, true, false⟩
  | .rdIcdiptrPriv _ a => ⟨a.lane, a.size, a.ns, a.req, none, false, true⟩
  | .wrIcdiptrPriv _ a _ => ⟨a.lane, a.size, a.ns, a.req, none, true, true⟩
  | .rdIcdiptrSpi _ a => ⟨a.lane, a.size, a.ns, a.req, none, false, true⟩
  | .wrIcdiptrSpi _ a _ => ⟨a.lane, a.size, a.ns, a.req, none, true, true⟩
  | .rdIcdicfr _ a => ⟨a.lane, a.size, a.ns, a.req, none, false, false⟩
  | .wrIcdicfr _ a _ => ⟨a.lane, a.size, a.ns, a.req, none, true, false⟩
  | .rdImpD00 _ a => ⟨a.lane, a.size, a.ns, a.req, none, false, false⟩
  | .wrImpD00 _ a _ => ⟨a.lane, a.size, a.ns, a.req, none, true, false⟩
  | .rdResE00 _ a => ⟨a.lane, a.size, a.ns, a.req, none, false, false⟩
  | .wrResE00 _ a _ => ⟨a.lane, a.size, a.ns, a.req, none, true, false⟩
  | .rdIcdsgir a => ⟨a.lane, a.size, a.ns, a.req, none, false, false⟩
  | .wrIcdsgir a _ => ⟨a.lane, a.size, a.ns, a.req, none, true, false⟩
  | .rdIcpidr4 a => ⟨a.lane, a.size, a.ns, a.req, none, false, false⟩
  | .wrIcpidr4 a _ => ⟨a.lane, a.size, a.ns, a.req, none, true, false⟩
  | .rdIcpidr5 a => ⟨a.lane, a.size, a.ns, a.req, none, false, false⟩
  | .wrIcpidr5 a _ => ⟨a.lane, a.size, a.ns, a.req, none, true, false⟩
  | .rdIcpidr6 a => ⟨a.lane, a.size, a.ns, a.req, none, false, false⟩
  | .wrIcpidr6 a _ => ⟨a.lane, a.size, a.ns, a.req, none, true, false⟩
  | .rdIcpidr7 a => ⟨a.lane, a.size, a.ns, a.req, none, false, false⟩
  | .wrIcpidr7 a _ => ⟨a.lane, a.size, a.ns, a.req, none, true, false⟩
  | .rdIcpidr0 a => ⟨a.lane, a.size, a.ns, a.req, none, false, false⟩
  | .wrIcpidr0 a _ => ⟨a.lane, a.size, a.ns, a.req, none, true, false⟩
  | .rdIcpidr1 a => ⟨a.lane, a.size, a.ns, a.req, none, false, false⟩
  | .wrIcpidr1 a _ => ⟨a.lane, a.size, a.ns, a.req, none, true, false⟩
  | .rdIcpidr2 a => ⟨a.lane, a.size, a.ns, a.req, none, false, false⟩
  | .wrIcpidr2 a _ => ⟨a.lane, a.size, a.ns, a.req, none, true, false⟩
  | .rdIcpidr3 a => ⟨a.lane, a.size, a.ns, a.req, none, false, false⟩
  | .wrIcpidr3 a _ => ⟨a.lane, a.size, a.ns, a.req, none, true, false⟩
  | .rdIccidr0 a => ⟨a.lane, a.size, a.ns, a.req, none, false, false⟩
  | .wrIccidr0 a _ => ⟨a.lane, a.size, a.ns, a.req, none, true, false⟩
  | .rdIccidr1 a => ⟨a.lane, a.size, a.ns, a.req, none, false, false⟩
  | .wrIccidr1 a _ => ⟨a.lane, a.size, a.ns, a.req, none, true, false⟩
  | .rdIccidr2 a => ⟨a.lane, a.size, a.ns, a.req, none, false, false⟩
  | .wrIccidr2 a _ => ⟨a.lane, a.size, a.ns, a.req, none, true, false⟩
  | .rdIccidr3 a => ⟨a.lane, a.size, a.ns, a.req, none, false, false⟩
  | .wrIccidr3 a _ => ⟨a.lane, a.size, a.ns, a.req, none, true, false⟩
  | .rdResF04 _ a => ⟨a.lane, a.size, a.ns, a.req, none, false, false⟩
  | .wrResF04 _ a _ => ⟨a.lane, a.size, a.ns, a.req, none, true, false⟩
  | .rdIccicr a => ⟨a.lane, a.size, a.ns, a.req, some a.ifc, false, false⟩
  | .wrIccicr a _ => ⟨a.lane, a.size, a.ns, a.req, some a.ifc, true, false⟩
  | .rdIccpmr a => ⟨a.lane, a.size, a.ns, a.req, some a.ifc, false, false⟩
  | .wrIccpmr a _ => ⟨a.lane, a.size, a.ns, a.req, some a.ifc, true, false⟩
  | .rdIccbpr a => ⟨a.lane, a.size, a.ns, a.req, some a.ifc, false, false⟩
  | .wrIccbpr a _ => ⟨a.lane, a.size, a.ns, a.req, some a.ifc, true, false⟩
  | .rdIcciar a => ⟨a.lane, a.size, a.ns, a.req, some a.ifc, false, false⟩
  | .wrIcciar a _ => ⟨a.lane, a.size, a.ns, a.req, some a.ifc, true, false⟩
  | .rdIcceoir a => ⟨a.lane, a.size, a.ns, a.req, some a.ifc, false, false⟩
  | .wrIcceoir a _ => ⟨a.lane, a.size, a.ns, a.req, some a.ifc, true, false⟩
  | .rdIccrpr a => ⟨a.lane, a.size, a.ns, a.req, some a.ifc, false, false⟩
  | .wrIccrpr a _ => ⟨a.lane, a.size, a.ns, a.req, some a.ifc, true, false⟩
  | .rdIcchpir a => ⟨a.lane, a.size, a.ns, a.req, some a.ifc, false, false⟩
  | .wrIcchpir a _ => ⟨a.lane, a.size, a.ns, a.req, some a.ifc, true, false⟩
  | .rdIccabpr a => ⟨a.lane, a.size, a.ns, a.req, some a.ifc, false, false⟩
  | .wrIccabpr a _ => ⟨a.lane, a.size, a.ns, a.req, some a.ifc, true, false⟩
  | .rdRes20 _ a => ⟨a.lane, a.size, a.ns, a.req, some a.ifc, false, false⟩
  | .wrRes20 _ a _ => ⟨a.lane, a.size, a.ns, a.req, some a.ifc, true, false⟩
  | .rdImp40 _ a => ⟨a.lane, a.size, a.ns, a.req, some a.ifc, false, false⟩
  | .wrImp40 _ a _ => ⟨a.lane, a.size, a.ns, a.req, some a.ifc, true, false⟩
  | .rdImp80 _ a => ⟨a.lane, a.size, a.ns, a.req, some a.ifc, false, false⟩
  | .wrImp80 _ a _ => ⟨a.lane, a.size, a.ns, a.req, some a.ifc, true, false⟩
  | .rdImpC0 _ a => ⟨a.lane, a.size, a.ns, a.req, some a.ifc, false, false⟩
  | .wrImpC0 _ a _ => ⟨a.lane, a.size, a.ns, a.req, some a.ifc, true, false⟩
  | .rdIcciidr a => ⟨a.lane, a.size, a.ns, a.req, some a.ifc, false, false⟩
  | .wrIcciidr a _ => ⟨a.lane, a.size, a.ns, a.req, some a.ifc, true, false⟩
  | .rdResD0 _ a => ⟨a.lane, a.size, a.ns, a.req, some a.ifc, false, false⟩
  | .wrResD0 _ a _ => ⟨a.lane, a.size, a.ns, a.req, some a.ifc, true, false⟩
  | .rdResE0 _ a => ⟨a.lane, a.size, a.ns, a.req, some a.ifc, false, false⟩
  | .wrResE0 _ a _ => ⟨a.lane, a.size, a.ns, a.req, some a.ifc, true, false⟩

/-- The instruction of a waiting operation, where it is an access, in either form (R12, R121). -/
def Input.instr (cfg : Config) : Input → Option Instr
  | .access aw data => (decode aw data).toOption
  | .mem m => (memAccessWord cfg m).bind fun aw => (decode aw m.data).toOption
  | _ => none

/-- The access is one the system can make (R12, R101): its requester exists, and so does the interface
it addresses, which it may reach. -/
def Accepted (s : State) (i : Instr) : Prop :=
  requesterExists s.cfg (accessInfo i).req = true ∧
    ∀ c, (accessInfo i).ifc = some c →
      cpuExists s.cfg c = true ∧ interfaceReachable s.cfg (accessInfo i).req c = true

/-- The access has a size and alignment the register does not support (R83 to R86). -/
def Unsupported (s : State) (i : Instr) : Prop :=
  let a := accessInfo i
  (a.size = .word ∧ a.lane ≠ 0#2) ∨
    (a.size = .halfword ∧
      (a.lane.getLsbD 0 = true ∨ a.bytes = false ∨ s.cfg.halfword ≠ .bytePairs)) ∨
    (a.size = .byte ∧ a.bytes = false)

/-- An aligned word access to the Distributor by a requester that exists, with UNPRED clear. -/
def DistWordReady (s : State) (a : DistArgs) : Prop :=
  s.unpred = false ∧ requesterExists s.cfg a.req = true ∧ a.lane = 0#2 ∧ a.size = .word

/-- An access to ICDIPR or ICDIPTR of a supported size and alignment by a requester that exists, with
UNPRED clear: a word at offset 0, a byte anywhere, an aligned halfword where HALFWORD_ACCESS is
`byte_pairs` (R83 to R86). -/
def DistBytesReady (s : State) (a : DistArgs) : Prop :=
  s.unpred = false ∧ requesterExists s.cfg a.req = true ∧
    ((a.size = .word ∧ a.lane = 0#2) ∨ a.size = .byte ∨
      (a.size = .halfword ∧ a.lane.getLsbD 0 = false ∧ s.cfg.halfword = .bytePairs))

/-- An aligned word access to an existing CPU interface its requester may reach, with UNPRED clear. -/
def CpuWordReady (s : State) (a : CpuArgs) : Prop :=
  s.unpred = false ∧ requesterExists s.cfg a.req = true ∧ cpuExists s.cfg a.ifc = true ∧
    interfaceReachable s.cfg a.req a.ifc = true ∧ a.lane = 0#2 ∧ a.size = .word

/-- DIST_WRITE_LATENCY = `immediate` (R391). -/
def Immediate (s : State) : Prop := s.cfg.distWriteLatency = .immediate

/-- The state of the same machine with another DIST_WRITE_LATENCY (R391). -/
def State.withLatency (s : State) (l : DistWriteLatency) : State :=
  { s with cfg := { s.cfg with distWriteLatency := l } }

/-- The requester reaches interface c's copy of interrupt n: its own for a private interrupt, the one
copy of an SPI (R53, R100). -/
def Reaches (s : State) (req : Option Cpu) (c : Cpu) (n : Nat) : Prop :=
  n < 32 → sourceId s.cfg req = some c

end Sys2Proof.Machine
end

