-- ==== Sys2Proof/Certificates/Slice0/Obligations.lean ====
section
/-! DEFINITION. The statements about the model, one proposition each. Each docstring says what it
states and which rules it rests on; OBLIGATIONS.json lists them. -/

open Sys2Proof Sys2Proof.Machine

/-- Decoding the encoding of a well-formed instruction gives the instruction. For every well-formed
instruction, with every operand at every value, the decoder reads from the words the encoder writes
exactly that instruction: no field of the access word is lost. (R120, R121) -/
def Obligations.DecodeOfEncode : Prop :=
  ∀ i : Instr, i.wellFormed = true → decode (encode i).1 (encode i).2 = .ok i

/-- Every decoded word is well formed, and encoding gives the access word back. If two words decode to
an instruction, the instruction is well formed; if REQV is 1 its encoding is the access word itself
(with REQV = 0 the decoder ignores REQ, log 11); the data word of a write is kept. (R120, R121) -/
def Obligations.EncodeOfDecode : Prop :=
  ∀ (aw data : Word) (i : Instr), decode aw data = .ok i →
    i.wellFormed = true ∧ (aw.getLsbD 20 = true → (encode i).1 = aw) ∧
      ((accessInfo i).write = true → (encode i).2 = data)

/-- The four example access words of R120 decode to the accesses they stand for. The access words
0x00112000, 0x0011100C, 0x0033500C and 0x00102428 decode to the Secure word write of ICDDCR, the
Secure word read of ICCIAR, the Non-secure word read of ICCIAR on interface 1, and the Secure byte
write of ICDIPR at offset 0x428. (R120) -/
def Obligations.AccessWordExamples : Prop :=
  (∀ data, decode 0x00112000#32 data = .ok (.wrIcddcr ⟨0#2, .word, false, some 0⟩ data)) ∧
  (∀ data, decode 0x0011100C#32 data = .ok (.rdIcciar ⟨0#2, .word, false, some 0, 0⟩)) ∧
  (∀ data, decode 0x0033500C#32 data = .ok (.rdIcciar ⟨0#2, .word, true, some 1, 1⟩)) ∧
  (∀ data, decode 0x00102428#32 data = .ok (.wrIcdipr 10#8 ⟨0#2, .byte, false, some 0⟩ data))

/-- A step whose oldest waiting operation is an access, by access word or by address, runs its
instruction. When the oldest waiting operation is an access that decodes to a well-formed
instruction i, the step is exec of i in the state without that operation, and nothing else; the same
for an instruction placed by withFetchWord, in the very state. A read or write of the memory map at
DBASE + off, off below 0x1000, steps as the Distributor access word with that offset; at CBASE(c) +
off, off below 0x100, as the access word of interface c, which is the requester's own where its
block holds the address and otherwise the only one whose block does. Every other address is refused.
That an address in the blocks of several foreign interfaces is refused, and that the Distributor
block comes first where blocks overlap, are the model's choices (log 22). (R94, R95, R121, R12, R81,
R101) -/
def Obligations.StepRunsDecodedInstruction : Prop :=
  (∀ (s : State) (aw data : Word) (rest : List Input) (i : Instr),
    s.inputs = .access aw data :: rest → decode aw data = .ok i → i.wellFormed = true →
      step s = exec i { s with inputs := rest }) ∧
  (∀ (s : State) (w : Nat) (i : Instr), decodeTableWord 64 w = some i → i.wellFormed = true →
      step (s.withFetchWord 64 w) = exec i s) ∧
  (∀ (s : State) (m : MemAccess) (rest : List Input), s.inputs = .mem m :: rest →
    let inDist := s.cfg.distBase ≤ m.addr ∧ m.addr < s.cfg.distBase + 0x1000
    let holds := fun (c : Cpu) => c.val < ncpu s.cfg ∧ s.cfg.cpuBase[c] ≤ m.addr ∧
      m.addr < s.cfg.cpuBase[c] + 0x100
    let own := fun (c : Cpu) => sourceId s.cfg m.req = some c
    let operands : BitVec 9 := encodeRequester m.req ++ encodeSize m.size ++ BitVec.ofBool m.ns ++
      BitVec.ofBool m.write ++ 0#1
    let word := fun (aw : Word) => step { s with inputs := .access aw m.data :: rest }
    (inDist → step s = word
      (0#11 ++ operands ++ BitVec.ofNat 12 (m.addr - s.cfg.distBase) : BitVec 32)) ∧
    (¬ inDist → ∀ c, holds c → (own c ∨ ∀ d, holds d → d = c) → step s = word
      (0#8 ++ (BitVec.ofFin c : BitVec 3) ++ (operands ||| 1#9) ++
        BitVec.ofNat 12 (m.addr - s.cfg.cpuBase[c]) : BitVec 32)) ∧
    (¬ inDist → (∀ c, holds c → ¬ own c ∧ ∃ d, holds d ∧ d ≠ c) →
      step s = .refused .notGicAddress))

/-- Every access the system can make completes, keeping the configuration, the inputs and the queue. For
every instruction and every state, an access whose requester exists and whose interface exists and
is reachable answers a next state: no access faults. The step changes neither the parameters, nor
the input lines, nor CFGSDISABLE, nor the legacy inputs, nor the operations still to come. Every
other access is refused: R101 says so of the interface of another processor; for a requester or an
interface that does not exist it is the model's choice (log 10). (R91, R12, R101) -/
def Obligations.NoAccessFaults : Prop :=
  ∀ (i : Instr) (s : State),
    (Accepted s i → ∃ t, exec i s = .next t ∧ t.cfg = s.cfg ∧ t.line = s.line ∧
      t.cfgsdisable = s.cfgsdisable ∧ t.legacyIrq = s.legacyIrq ∧ t.legacyFiq = s.legacyFiq ∧
      t.inputs = s.inputs) ∧
    (¬ Accepted s i → ∃ r, exec i s = .refused r)

/-- An access of an unsupported size or alignment raises UNPREDICTABLE, a delayed write when it is
performed. For every instruction: with UNPRED clear, an accepted access that is a misaligned word or
halfword, a byte access to a register other than ICDIPR and ICDIPTR, or a halfword access that
HALFWORD_ACCESS does not support, ends in a state with UNPRED set; of the Distributor writes this
says so where they are immediate. With UNPRED clear and such a write the oldest of WQ, APPLY_WRITE
and the step with no operation waiting end in a state with UNPRED set. That reserved, IMPLEMENTATION
DEFINED, read-only and write-only offsets are no exception is the model's reading (log 21), and so
is that a delayed write is checked when it is performed (log 16); that a step with no operation
waiting performs the oldest write of WQ is the model's choice (log 3). (R84, R85, R86, R87, R391) -/
def Obligations.UnsupportedSizeIsUnpredictable : Prop :=
  (∀ (i : Instr) (s : State), s.unpred = false → Accepted s i → Unsupported s i →
    ((accessInfo i).write = true → (accessInfo i).ifc = none → Immediate s) →
    ∃ t, exec i s = .next t ∧ t.unpred = true) ∧
  (∀ (i : Instr) (s : State) (q : List Instr), s.unpred = false → s.gic.wq = i :: q →
    (accessInfo i).write = true → (accessInfo i).ifc = none → Unsupported s i →
    (s.inputs = [] ∨ ∃ rest, s.inputs = .applyWrite :: rest) →
    ∃ t, step s = .next t ∧ t.unpred = true)

/-- A read of ICDICTR returns LSPI, SecurityExtn, CPUNumber and ITLinesNumber, and changes nothing. A
word read of ICDICTR by any requester with any attribute returns LSPI*2^11 + SECEXT*2^10 +
(NCPU-1)*2^5 + ITLINES, with LSPI counting as 0 without the Security Extensions, and changes nothing
but the value read. (R50, R163) -/
def Obligations.IcdictrRead : Prop :=
  ∀ (s : State) (a : DistArgs), DistWordReady s a →
    ∃ v : Word, exec (.rdIcdictr a) s = .next
        { s with gic := { s.gic with readData := v } } ∧
      v.toNat = (if s.cfg.secext = true then s.cfg.lspi.toNat * 2048 + 1024 else 0)
        + (ncpu s.cfg - 1) * 32 + s.cfg.itLines.toNat

/-- Reads of ICDIIDR and ICCIIDR return their fields, with the fixed ones as the architecture says. Word
reads of ICDIIDR and of ICCIIDR return the implementation defined fields at their places, bits
[23:20] and [7] of ICDIIDR 0, the architecture version of ICCIIDR 0x1 and its bit [7] 0, and change
nothing but the value read. (R51, R165, R327) -/
def Obligations.ImplementerReads : Prop :=
  (∀ (s : State) (a : DistArgs), DistWordReady s a →
    ∃ v : Word, exec (.rdIcdiidr a) s = .next
        { s with gic := { s.gic with readData := v } } ∧
      v.extractLsb' 24 8 = s.cfg.ids.distProductId ∧ v.extractLsb' 20 4 = 0#4 ∧
      v.extractLsb' 16 4 = s.cfg.ids.distVariant ∧ v.extractLsb' 12 4 = s.cfg.ids.distRevision ∧
      v.extractLsb' 8 4 = s.cfg.ids.distContinuation ∧ v.getLsbD 7 = false ∧
      v.extractLsb' 0 7 = s.cfg.ids.distIdentity) ∧
  (∀ (s : State) (a : CpuArgs), CpuWordReady s a →
    ∃ v : Word, exec (.rdIcciidr a) s = .next
        { s with gic := { s.gic with readData := v } } ∧
      v.extractLsb' 20 12 = s.cfg.ids.cpuProductId ∧ v.extractLsb' 16 4 = 1#4 ∧
      v.extractLsb' 12 4 = s.cfg.ids.cpuRevision ∧
      v.extractLsb' 8 4 = s.cfg.ids.cpuContinuation ∧ v.getLsbD 7 = false ∧
      v.extractLsb' 0 7 = s.cfg.ids.cpuIdentity)

/-- A read of each identification register returns its constant, with ArchRev = 0x1 in ICPIDR2. A word
read of each of the twelve identification registers, by any requester with any attribute, returns
the constant of the implementation and changes nothing but the value read; bits [7:4] of ICPIDR2 are
0x1. (R283, R284, R285, R286, R287, R288, R289, R291, R293, R295, R296, R297) -/
def Obligations.IdentificationReads : Prop :=
  ∀ (s : State) (a : DistArgs), DistWordReady s a →
    exec (.rdIcpidr4 a) s = .next
      { s with gic := { s.gic with readData := s.cfg.idRegs.icpidr4 } } ∧
    exec (.rdIcpidr5 a) s = .next
      { s with gic := { s.gic with readData := s.cfg.idRegs.icpidr5 } } ∧
    exec (.rdIcpidr6 a) s = .next
      { s with gic := { s.gic with readData := s.cfg.idRegs.icpidr6 } } ∧
    exec (.rdIcpidr7 a) s = .next
      { s with gic := { s.gic with readData := s.cfg.idRegs.icpidr7 } } ∧
    exec (.rdIcpidr0 a) s = .next
      { s with gic := { s.gic with readData := s.cfg.idRegs.icpidr0 } } ∧
    exec (.rdIcpidr1 a) s = .next
      { s with gic := { s.gic with readData := s.cfg.idRegs.icpidr1 } } ∧
    exec (.rdIcpidr3 a) s = .next
      { s with gic := { s.gic with readData := s.cfg.idRegs.icpidr3 } } ∧
    exec (.rdIccidr0 a) s = .next
      { s with gic := { s.gic with readData := s.cfg.idRegs.iccidr0 } } ∧
    exec (.rdIccidr1 a) s = .next
      { s with gic := { s.gic with readData := s.cfg.idRegs.iccidr1 } } ∧
    exec (.rdIccidr2 a) s = .next
      { s with gic := { s.gic with readData := s.cfg.idRegs.iccidr2 } } ∧
    exec (.rdIccidr3 a) s = .next
      { s with gic := { s.gic with readData := s.cfg.idRegs.iccidr3 } } ∧
    ∃ v : Word, exec (.rdIcpidr2 a) s = .next
        { s with gic := { s.gic with readData := v } } ∧
      v.extractLsb' 8 24 = s.cfg.idRegs.icpidr2High ∧ v.extractLsb' 4 4 = 1#4 ∧
      v.extractLsb' 0 4 = s.cfg.idRegs.icpidr2Low

/-- Every reserved register address reads as zero and ignores writes. A word read of any reserved offset
of the Distributor or of a CPU interface returns 0 and changes nothing else; a word write changes
nothing (where Distributor writes are delayed: DelayedWrites). (R170, R205, R252, R301, R329) -/
def Obligations.ReservedAddresses : Prop :=
  (∀ (s : State) (a : DistArgs), DistWordReady s a →
    (∀ m, exec (.rdRes00C m a) s = .next
      { s with gic := { s.gic with readData := 0#32 } }) ∧
    (∀ m, exec (.rdRes380 m a) s = .next
      { s with gic := { s.gic with readData := 0#32 } }) ∧
    exec (.rdRes7FC a) s = .next
      { s with gic := { s.gic with readData := 0#32 } } ∧
    exec (.rdResBFC a) s = .next
      { s with gic := { s.gic with readData := 0#32 } } ∧
    (∀ m, exec (.rdResE00 m a) s = .next
      { s with gic := { s.gic with readData := 0#32 } }) ∧
    (∀ m, exec (.rdResF04 m a) s = .next
      { s with gic := { s.gic with readData := 0#32 } })) ∧
  (∀ (s : State) (a : DistArgs) (data : Word), DistWordReady s a → Immediate s →
    (∀ m, exec (.wrRes00C m a data) s = .next s) ∧
    (∀ m, exec (.wrRes380 m a data) s = .next s) ∧
    exec (.wrRes7FC a data) s = .next s ∧
    exec (.wrResBFC a data) s = .next s ∧
    (∀ m, exec (.wrResE00 m a data) s = .next s) ∧
    (∀ m, exec (.wrResF04 m a data) s = .next s)) ∧
  (∀ (s : State) (a : CpuArgs) (data : Word), CpuWordReady s a →
    (∀ m, exec (.rdRes20 m a) s = .next
      { s with gic := { s.gic with readData := 0#32 } }) ∧
    (∀ m, exec (.rdResD0 m a) s = .next
      { s with gic := { s.gic with readData := 0#32 } }) ∧
    (∀ m, exec (.rdResE0 m a) s = .next
      { s with gic := { s.gic with readData := 0#32 } }) ∧
    (∀ m, exec (.wrRes20 m a data) s = .next s) ∧
    (∀ m, exec (.wrResD0 m a data) s = .next s) ∧
    (∀ m, exec (.wrResE0 m a data) s = .next s))

/-- A write to a read-only register changes nothing. A word write of any data to ICDICTR, ICDIIDR,
ICDABRn, an identification register, ICCIAR, ICCRPR, ICCHPIR or ICCIIDR leaves the whole state as it
was (where Distributor writes are delayed: DelayedWrites). (R164, R166, R200, R294, R318, R322,
R326, R328) -/
def Obligations.ReadOnlyWrites : Prop :=
  (∀ (s : State) (a : DistArgs) (data : Word), DistWordReady s a → Immediate s →
    exec (.wrIcdictr a data) s = .next s ∧
    exec (.wrIcdiidr a data) s = .next s ∧
    exec (.wrIcpidr4 a data) s = .next s ∧
    exec (.wrIcpidr5 a data) s = .next s ∧
    exec (.wrIcpidr6 a data) s = .next s ∧
    exec (.wrIcpidr7 a data) s = .next s ∧
    exec (.wrIcpidr0 a data) s = .next s ∧
    exec (.wrIcpidr1 a data) s = .next s ∧
    exec (.wrIcpidr2 a data) s = .next s ∧
    exec (.wrIcpidr3 a data) s = .next s ∧
    exec (.wrIccidr0 a data) s = .next s ∧
    exec (.wrIccidr1 a data) s = .next s ∧
    exec (.wrIccidr2 a data) s = .next s ∧
    exec (.wrIccidr3 a data) s = .next s ∧
    ∀ m, exec (.wrIcdabr m a data) s = .next s) ∧
  (∀ (s : State) (a : CpuArgs) (data : Word), CpuWordReady s a →
    exec (.wrIcciar a data) s = .next s ∧
    exec (.wrIccrpr a data) s = .next s ∧
    exec (.wrIcchpir a data) s = .next s ∧
    exec (.wrIcciidr a data) s = .next s)

/-- IMPLEMENTATION DEFINED register addresses read some value, 0 where they are RAZ/WI, and ignore
writes. A word read of an IMPLEMENTATION DEFINED offset returns a value, 0 where IMPDEF_REGS is
RAZ/WI, and changes nothing else but the count of values drawn; a word write changes nothing. That a
value other than RAZ/WI is a fresh one and that writes are then still ignored is the model's choice
(log 12). (R88, R300, R330) -/
def Obligations.ImplementationDefinedAddresses : Prop :=
  (∀ (s : State) (a : DistArgs) (m : BitVec 6), DistWordReady s a →
    (∃ v : Word, exec (.rdImpD00 m a) s = .next
        { s with gic := { s.gic with readData := v }, tick := s.tick + 1 } ∧
      (s.cfg.impdefRegs = .razWi → v = 0#32)) ∧
    ∀ data, Immediate s → exec (.wrImpD00 m a data) s = .next s) ∧
  (∀ (s : State) (a : CpuArgs), CpuWordReady s a →
    (∀ m, ∃ v : Word, exec (.rdImp40 m a) s = .next
        { s with gic := { s.gic with readData := v }, tick := s.tick + 1 } ∧
      (s.cfg.impdefRegs = .razWi → v = 0#32)) ∧
    (∀ m data, exec (.wrImp40 m a data) s = .next s) ∧
    (∀ m, ∃ v : Word, exec (.rdImp80 m a) s = .next
        { s with gic := { s.gic with readData := v }, tick := s.tick + 1 } ∧
      (s.cfg.impdefRegs = .razWi → v = 0#32)) ∧
    (∀ m data, exec (.wrImp80 m a data) s = .next s) ∧
    (∀ m, ∃ v : Word, exec (.rdImpC0 m a) s = .next
        { s with gic := { s.gic with readData := v }, tick := s.tick + 1 } ∧
      (s.cfg.impdefRegs = .razWi → v = 0#32)) ∧
    (∀ m data, exec (.wrImpC0 m a data) s = .next s))

/-- A read of ICDSGIR or ICCEOIR returns some value and has no side effect. A word read of ICDSGIR or of
ICCEOIR completes with some value and changes nothing else but the count of values drawn (the count
is the model's own, log 5). (R282, R320, R89) -/
def Obligations.WriteOnlyReads : Prop :=
  (∀ (s : State) (a : DistArgs), DistWordReady s a →
    ∃ v : Word, exec (.rdIcdsgir a) s = .next
      { s with gic := { s.gic with readData := v }, tick := s.tick + 1 }) ∧
  (∀ (s : State) (a : CpuArgs), CpuWordReady s a →
    ∃ v : Word, exec (.rdIcceoir a) s = .next
      { s with gic := { s.gic with readData := v }, tick := s.tick + 1 })

/-- A read of ICDDCR returns the Enable bit of the copy the access reaches. A word read of ICDDCR
returns DCR_NS to a Non-secure access with the Security Extensions and DCR_S otherwise, in bit [0],
and changes nothing but the value read. (R161) -/
def Obligations.IcddcrRead : Prop :=
  ∀ (s : State) (a : DistArgs), DistWordReady s a →
    exec (.rdIcddcr a) s = .next { s with gic := { s.gic with
      readData := if (s.cfg.secext = true ∧ a.ns = true ∧ s.gic.dcrNS = true) ∨
          (¬ (s.cfg.secext = true ∧ a.ns = true) ∧ s.gic.dcrS = true) then 1#32 else 0#32 } }

/-- A write of ICDDCR sets the copy it reaches unless locked, and latches HIGH edge lines where so
implemented. A word write of ICDDCR with immediate writes stores data[0] in DCR_NS for a Non-secure
access with the Security Extensions; otherwise in DCR_S, unless lockdown is active. With
EDGE_HIGH_AT_ENABLE = edge it also latches every implemented edge-triggered peripheral interrupt
whose line is HIGH and whose Distributor enable goes from 0 to 1, and no other. Nothing else
changes. (R162) -/
def Obligations.IcddcrWrite : Prop :=
  ∀ (s : State) (a : DistArgs) (data : Word), DistWordReady s a → Immediate s →
    ∃ l : Bits, ∃ t : State, exec (.wrIcddcr a data) s = .next t ∧
      t = { s with gic := { s.gic with
        dcrS := if (s.cfg.secext = true ∧ a.ns = true) ∨ lockActive s = true then s.gic.dcrS
          else data.getLsbD 0,
        dcrNS := if s.cfg.secext = true ∧ a.ns = true then data.getLsbD 0 else s.gic.dcrNS,
        latch := l } } ∧
      (s.cfg.edgeHighAtEnable = .noEdge → l = s.gic.latch) ∧
      (s.cfg.edgeHighAtEnable = .edge → ∀ c n, n < 1020 →
        (l.getLsbD (slot c n) = true ↔ latchOf s c n = true ∨
          (16 ≤ n ∧ implemented s.cfg c n = true ∧ edgeOf s c n = true ∧ lineOf s c n = true ∧
            fwdEn s c n = false ∧ fwdEn t c n = true)))

/-- A read of ICDISRn returns the security bits of the implemented interrupts to a Secure access, 0
otherwise. A word read of ICDISRn returns 0 without the Security Extensions or to a Non-secure
access; otherwise bit F is 1 exactly if interrupt 32n+F is implemented for the bank the requester
reaches and is Non-secure. Nothing else changes. (R167) -/
def Obligations.IcdisrRead : Prop :=
  ∀ (s : State) (a : DistArgs) (m : BitVec 5), DistWordReady s a →
    ∃ v : Word, exec (.rdIcdisr m a) s = .next
        { s with gic := { s.gic with readData := v } } ∧
      ∀ f, f < 32 → (v.getLsbD f = true ↔ s.cfg.secext = true ∧ a.ns = false ∧
        ∃ c, Reaches s a.req c (32 * m.toNat + f) ∧
          implemented s.cfg c (32 * m.toNat + f) = true ∧ nsbOf s c (32 * m.toNat + f) = true)

/-- A write of ICDISRn sets the security of its unlocked, programmable interrupts; of a busy one it is
UNPREDICTABLE. A word write of ICDISRn with immediate writes is ignored without the Security
Extensions or when Non-secure. Otherwise the fields it reaches are those of implemented interrupts
whose security is not fixed and that are not locked; if a written bit changes the security of such
an interrupt while it is pending or active, UNPRED is set; else exactly these fields take the
written bits and nothing else changes. (R168) -/
def Obligations.IcdisrWrite : Prop :=
  ∀ (s : State) (a : DistArgs) (m : BitVec 5) (data : Word), DistWordReady s a → Immediate s →
    let reached := fun (c : Cpu) (n : Nat) => n / 32 = m.toNat ∧ Reaches s a.req c n ∧
      implemented s.cfg c n = true ∧ alwaysSecure s.cfg c n = false ∧ alwaysNs s.cfg c n = false ∧
      locked s n = false
    let busy := fun (c : Cpu) (n : Nat) =>
      pend s c n = true ∨ act s c n = true ∨ (32 ≤ n ∧ actAny s n = true)
    ((s.cfg.secext = false ∨ a.ns = true) → exec (.wrIcdisr m a data) s = .next s) ∧
    (s.cfg.secext = true → a.ns = false →
      (∃ c n, n < 1020 ∧ reached c n ∧ nsbOf s c n ≠ data.getLsbD (n % 32) ∧ busy c n) →
        ∃ t, exec (.wrIcdisr m a data) s = .next t ∧ t.unpred = true) ∧
    (s.cfg.secext = true → a.ns = false →
      (∀ c n, n < 1020 → reached c n → nsbOf s c n ≠ data.getLsbD (n % 32) → ¬ busy c n) →
        ∃ b : Bits, exec (.wrIcdisr m a data) s = .next
            { s with gic := { s.gic with nsb := b } } ∧
          ∀ c n, n < 1020 → (reached c n → b.getLsbD (slot c n) = data.getLsbD (n % 32)) ∧
            (¬ reached c n → b.getLsbD (slot c n) = s.gic.nsb.getLsbD (slot c n)))

/-- Reads of ICDISER, ICDICER, ICDISPR and ICDICPR show the enable and the pending bits of the Visible
interrupts. A word read of ICDISERn or ICDICERn has bit F set exactly if interrupt 32n+F of the bank
reached is Visible to the access and enabled; of ICDISPRn or ICDICPRn exactly if it is Visible and
pending. Nothing but the value read changes. (R191, R193, R195, R197) -/
def Obligations.BitmapReads : Prop :=
  ∀ (s : State) (a : DistArgs) (m : BitVec 5), DistWordReady s a →
    (∃ v : Word, exec (.rdIcdiser m a) s = .next
        { s with gic := { s.gic with readData := v } } ∧
      ∀ f, f < 32 → (v.getLsbD f = true ↔ ∃ c, Reaches s a.req c (32 * m.toNat + f) ∧
        visible s c (32 * m.toNat + f) a.ns = true ∧ enOf s c (32 * m.toNat + f) = true)) ∧
    (∃ v : Word, exec (.rdIcdicer m a) s = .next
        { s with gic := { s.gic with readData := v } } ∧
      ∀ f, f < 32 → (v.getLsbD f = true ↔ ∃ c, Reaches s a.req c (32 * m.toNat + f) ∧
        visible s c (32 * m.toNat + f) a.ns = true ∧ enOf s c (32 * m.toNat + f) = true)) ∧
    (∃ v : Word, exec (.rdIcdispr m a) s = .next
        { s with gic := { s.gic with readData := v } } ∧
      ∀ f, f < 32 → (v.getLsbD f = true ↔ ∃ c, Reaches s a.req c (32 * m.toNat + f) ∧
        visible s c (32 * m.toNat + f) a.ns = true ∧ pend s c (32 * m.toNat + f) = true)) ∧
    (∃ v : Word, exec (.rdIcdicpr m a) s = .next
        { s with gic := { s.gic with readData := v } } ∧
      ∀ f, f < 32 → (v.getLsbD f = true ↔ ∃ c, Reaches s a.req c (32 * m.toNat + f) ∧
        visible s c (32 * m.toNat + f) a.ns = true ∧ pend s c (32 * m.toNat + f) = true))

/-- A read of ICDABRn shows what is active: private interrupts on the reader, SPIs on any interface. A
word read of ICDABRn has bit F set exactly if interrupt n = 32n+F is Visible to the access and some
entry of the active list of the reading processor (private interrupts) or of any interface (SPIs)
has that identifier. Nothing else changes. (R199) -/
def Obligations.ActiveBitRead : Prop :=
  ∀ (s : State) (a : DistArgs) (m : BitVec 5), DistWordReady s a →
    (∃ v : Word, exec (.rdIcdabr m a) s = .next
        { s with gic := { s.gic with readData := v } } ∧
      ∀ f, f < 32 → (v.getLsbD f = true ↔ ∃ c, Reaches s a.req c (32 * m.toNat + f) ∧
        visible s c (32 * m.toNat + f) a.ns = true ∧ 
        ∃ d, (32 * m.toNat + f < 32 → d = c) ∧
          ∃ e ∈ (s.ifc d).active, e.id = 32 * m.toNat + f))

/-- Writes of ICDISER and ICDICER set and clear exactly the writable, programmable enables written 1. A
word write of ICDISERn (ICDICERn) with immediate writes sets (clears) the enable of exactly the
interrupts of instance n that the requester reaches, that are Writable to the access, not
permanently enabled, and written 1. Nothing else changes. (R192, R194) -/
def Obligations.EnableWrites : Prop :=
  ∀ (s : State) (a : DistArgs) (m : BitVec 5) (data : Word), DistWordReady s a → Immediate s →
    let chosen := fun (c : Cpu) (n : Nat) => n / 32 = m.toNat ∧ Reaches s a.req c n ∧ data.getLsbD (n % 32) = true ∧
      writable s c n a.ns = true ∧
      permanentlyEnabled s.cfg c n = false
    (∃ b : Bits, exec (.wrIcdiser m a data) s = .next { s with gic := { s.gic with en := b } } ∧
      ∀ c n, n < 1020 → (b.getLsbD (slot c n) = true ↔
        chosen c n ∨ s.gic.en.getLsbD (slot c n) = true)) ∧
    (∃ b : Bits, exec (.wrIcdicer m a data) s = .next { s with gic := { s.gic with en := b } } ∧
      ∀ c n, n < 1020 → (b.getLsbD (slot c n) = true ↔
        ¬ chosen c n ∧ s.gic.en.getLsbD (slot c n) = true))

/-- Writes of ICDISPR and ICDICPR set and clear exactly the writable latches written 1, none of an SGI.
A word write of ICDISPRn (ICDICPRn) with immediate writes sets (clears) the pending latch of exactly
the peripheral interrupts of instance n that the requester reaches, that are Writable to the access
and written 1. Nothing else changes. (R196, R198) -/
def Obligations.PendingWrites : Prop :=
  ∀ (s : State) (a : DistArgs) (m : BitVec 5) (data : Word), DistWordReady s a → Immediate s →
    let chosen := fun (c : Cpu) (n : Nat) => n / 32 = m.toNat ∧ Reaches s a.req c n ∧ data.getLsbD (n % 32) = true ∧
      writable s c n a.ns = true ∧
      16 ≤ n
    (∃ b : Bits, exec (.wrIcdispr m a data) s = .next
        { s with gic := { s.gic with latch := b } } ∧
      ∀ c n, n < 1020 → (b.getLsbD (slot c n) = true ↔ chosen c n ∨ latchOf s c n = true)) ∧
    (∃ b : Bits, exec (.wrIcdicpr m a data) s = .next
        { s with gic := { s.gic with latch := b } } ∧
      ∀ c n, n < 1020 → (b.getLsbD (slot c n) = true ↔ ¬ chosen c n ∧ latchOf s c n = true))

/-- Writing all ones to ICDISERn or ICDICERn and reading back shows the Visible, or the permanently
enabled, interrupts. With immediate writes: after a word write of all ones to ICDISERn a read of it
by the same access shows exactly the Visible interrupts of the word, except a locked one that is
disabled; after all ones to ICDICERn a read shows exactly the Visible permanently enabled ones, and
a locked one that is enabled. R204 itself names the first exception, a locked and disabled lockable
SPI; the second, that a locked enabled one is still shown after ICDICERn, follows from R192, R194,
R105 and R107. (R204, R192, R194, R105, R107) -/
def Obligations.DiscoveryByEnable : Prop :=
  ∀ (s : State) (a : DistArgs) (m : BitVec 5), DistWordReady s a → Immediate s →
    (∃ t u, exec (.wrIcdiser m a (BitVec.allOnes 32)) s = .next t ∧ exec (.rdIcdiser m a) t = .next u ∧
      ∀ f, f < 32 → (u.gic.readData.getLsbD f = true ↔
        ∃ c, Reaches s a.req c (32 * m.toNat + f) ∧ visible s c (32 * m.toNat + f) a.ns = true ∧
          (locked s (32 * m.toNat + f) = false ∨ enOf s c (32 * m.toNat + f) = true))) ∧
    (∃ t u, exec (.wrIcdicer m a (BitVec.allOnes 32)) s = .next t ∧ exec (.rdIcdicer m a) t = .next u ∧
      ∀ f, f < 32 → (u.gic.readData.getLsbD f = true ↔
        ∃ c, Reaches s a.req c (32 * m.toNat + f) ∧ visible s c (32 * m.toNat + f) a.ns = true ∧
          (permanentlyEnabled s.cfg c (32 * m.toNat + f) = true ∨
            (locked s (32 * m.toNat + f) = true ∧ enOf s c (32 * m.toNat + f) = true))))

/-- A read of ICDIPRn returns the priority of each covered field, in the view of the access, 0 where not
Visible. A word, byte or supported halfword read of ICDIPRn returns in byte j the field of interrupt
4n + offset + j: 0 where it is not Visible to the access, the Non-secure view (shifted left by one)
to a Non-secure access with the Security Extensions, the stored value otherwise. The bytes of the
value beyond those of the access are 0, which is the model's reading (log 24); the halfword case is
R86. Nothing else changes. (R241, R86) -/
def Obligations.PriorityRead : Prop :=
  ∀ (s : State) (a : DistArgs) (m : BitVec 8), DistBytesReady s a →
    ∃ v : Word, exec (.rdIcdipr m a) s = .next
        { s with gic := { s.gic with readData := v } } ∧
      (∀ j, sizeBytes a.size ≤ j → dataByte v j = 0#8) ∧
      ∀ j, j < sizeBytes a.size → ∀ n, n = 4 * m.toNat + a.lane.toNat + j →
        (∀ c, Reaches s a.req c n → visible s c n a.ns = true → dataByte v j =
          if s.cfg.secext = true ∧ a.ns = true then (priOf s c n &&& pMask s.cfg) <<< 1
          else priOf s c n) ∧
        ((∀ c, Reaches s a.req c n → visible s c n a.ns = false) → dataByte v j = 0#8)

/-- A write of ICDIPRn stores each covered, writable priority through the view of the access, and
nothing else. A word, byte or supported halfword write of ICDIPRn with immediate writes stores, for
each covered field whose interrupt is reached and Writable and has no fixed priority, (0x80 OR v/2)
AND P_MASK for a Non-secure access with the Security Extensions and v AND P_MASK otherwise; every
other priority and everything else is unchanged. The halfword case is R86 (R240). That the bytes of
a narrow write are the low bytes of the data word is the model's reading (log 24). (R242, R86, R240) -/
def Obligations.PriorityWrite : Prop :=
  ∀ (s : State) (a : DistArgs) (m : BitVec 8) (data : Word), DistBytesReady s a → Immediate s →
    let chosen := fun (c : Cpu) (n j : Nat) => j < sizeBytes a.size ∧
      n = 4 * m.toNat + a.lane.toNat + j ∧ Reaches s a.req c n ∧
      writable s c n a.ns = true ∧ fixedPriority s.cfg c n = none
    ∃ b : Bytes, exec (.wrIcdipr m a data) s = .next { s with gic := { s.gic with pri := b } } ∧
      (∀ c n j, chosen c n j → getByte b (slot c n) = 
          (if s.cfg.secext = true ∧ a.ns = true then 0x80#8 ||| (dataByte data j >>> 1)
            else dataByte data j) &&& pMask s.cfg) ∧
      ∀ c n, n < 1020 → (∀ j, ¬ chosen c n j) →
        getByte b (slot c n) = getByte s.gic.pri (slot c n)

/-- A read of ICDIPTRn returns the reader's own mask for private interrupts and the targets of SPIs. A
word, byte or supported halfword read of ICDIPTRn returns 0 in a uniprocessor. Otherwise byte j
belongs to interrupt 4n + offset + j: 0 where not Visible, the mask of the reading interface for a
private interrupt (n = 0 to 7), the stored targets for an SPI (n = 8 to 254). The bytes of the value
beyond those of the access are 0, which is the model's reading (log 24); the halfword case is R86.
Nothing else changes. (R243, R86) -/
def Obligations.TargetsRead : Prop :=
  (∀ (s : State) (a : DistArgs) (m : BitVec 3), DistBytesReady s a →
    ∃ v : Word, exec (.rdIcdiptrPriv m a) s = .next
        { s with gic := { s.gic with readData := v } } ∧
      (ncpu s.cfg = 1 → v = 0#32) ∧
      (∀ j, sizeBytes a.size ≤ j → dataByte v j = 0#8) ∧
      ∀ j, j < sizeBytes a.size → ∀ n, n = 4 * m.toNat + a.lane.toNat + j → ncpu s.cfg ≠ 1 →
        (∀ c, a.req = some c → visible s c n a.ns = true → (dataByte v j).toNat = 2 ^ c.val) ∧
        ((∀ c, a.req = some c → visible s c n a.ns = false) → dataByte v j = 0#8)) ∧
  (∀ (s : State) (a : DistArgs) (m : BitVec 8), DistBytesReady s a → 8 ≤ m.toNat →
    ∃ v : Word, exec (.rdIcdiptrSpi m a) s = .next
        { s with gic := { s.gic with readData := v } } ∧
      (ncpu s.cfg = 1 → v = 0#32) ∧
      (∀ j, sizeBytes a.size ≤ j → dataByte v j = 0#8) ∧
      ∀ j, j < sizeBytes a.size → ∀ n, n = 4 * m.toNat + a.lane.toNat + j → ncpu s.cfg ≠ 1 →
        dataByte v j = if visible s 0 n a.ns = true then tgtOf s n else 0#8)

/-- A write of ICDIPTRn stores the covered, writable targets of SPIs without absent interfaces, and
nothing else. A write of ICDIPTR0 to ICDIPTR7 changes nothing. A word, byte or supported halfword
write of ICDIPTR8 to ICDIPTR254 with immediate writes stores, in a multiprocessor, the written byte
without the bits of absent interfaces for each covered SPI that is Writable and has no fixed
targets; every other field and everything else is unchanged. The halfword case is R86 (R240). That
the bytes of a narrow write are the low bytes of the data word is the model's reading (log 24).
(R244, R86, R240) -/
def Obligations.TargetsWrite : Prop :=
  (∀ (s : State) (a : DistArgs) (m : BitVec 3) (data : Word), DistBytesReady s a → Immediate s →
    exec (.wrIcdiptrPriv m a data) s = .next s) ∧
  (∀ (s : State) (a : DistArgs) (m : BitVec 8) (data : Word), DistBytesReady s a → Immediate s →
    8 ≤ m.toNat →
    let chosen := fun (n j : Nat) => j < sizeBytes a.size ∧
      n = 4 * m.toNat + a.lane.toNat + j ∧ ncpu s.cfg ≠ 1 ∧
      writable s 0 n a.ns = true ∧ spiTargetFixed s.cfg n = none
    ∃ b : Bytes, exec (.wrIcdiptrSpi m a data) s = .next { s with gic := { s.gic with tgt := b } } ∧
      (∀ n j, chosen n j → getByte b (n + 224) = 
          dataByte data j &&& BitVec.ofNat 8 (2 ^ ncpu s.cfg - 1)) ∧
      ∀ n, 32 ≤ n → n < 1020 → (∀ j, ¬ chosen n j) →
        getByte b (n + 224) = getByte s.gic.tgt (n + 224))

/-- A read of ICDICFRn shows the trigger mode of the Visible interrupts, edge-triggered for SGIs. A word
read of ICDICFRn has bit 2F 0, and bit 2F+1 set exactly if interrupt 16n+F of the bank reached is
Visible to the access and is an SGI or edge-triggered. Nothing else changes. (R245) -/
def Obligations.TriggerRead : Prop :=
  ∀ (s : State) (a : DistArgs) (m : BitVec 6), DistWordReady s a →
    ∃ v : Word, exec (.rdIcdicfr m a) s = .next
        { s with gic := { s.gic with readData := v } } ∧
      ∀ f, f < 16 → v.getLsbD (2 * f) = false ∧
        (v.getLsbD (2 * f + 1) = true ↔ ∃ c, Reaches s a.req c (16 * m.toNat + f) ∧
          visible s c (16 * m.toNat + f) a.ns = true ∧
          (16 * m.toNat + f < 16 ∨ edgeOf s c (16 * m.toNat + f) = true))

/-- A write of ICDICFRn sets the trigger mode of its writable, programmable interrupts; of an enabled
one it is UNPREDICTABLE. A word write of ICDICFRn with immediate writes reaches the fields of the
Writable SPIs and programmable PPIs of the instance. If it changes the mode of one that is enabled,
UNPRED is set; otherwise exactly these fields take bit [1] of the written field and nothing else
changes. (R246) -/
def Obligations.TriggerWrite : Prop :=
  ∀ (s : State) (a : DistArgs) (m : BitVec 6) (data : Word), DistWordReady s a → Immediate s →
    let reached := fun (c : Cpu) (n : Nat) => n / 16 = m.toNat ∧ Reaches s a.req c n ∧
      writable s c n a.ns = true ∧ 16 ≤ n ∧
      (n < 32 → s.cfg.ppiProgrammable.getLsbD (slot c n) = true)
    let written := fun (n : Nat) => data.getLsbD (2 * (n % 16) + 1)
    ((∃ c n, n < 1020 ∧ reached c n ∧ edgeOf s c n ≠ written n ∧ enOf s c n = true) →
      ∃ t, exec (.wrIcdicfr m a data) s = .next t ∧ t.unpred = true) ∧
    ((∀ c n, n < 1020 → reached c n → edgeOf s c n ≠ written n → enOf s c n = false) →
      ∃ b : Bits, exec (.wrIcdicfr m a data) s = .next
          { s with gic := { s.gic with icfg := b } } ∧
        ∀ c n, n < 1020 → (reached c n → b.getLsbD (slot c n) = written n) ∧
          (¬ reached c n → b.getLsbD (slot c n) = s.gic.icfg.getLsbD (slot c n)))

/-- A write of ICDSGIR makes the SGI pending from the requester on exactly the selected interfaces of
matching security. A word write of ICDSGIR with immediate writes: without a connected requester
nothing changes; a non-zero SBZ field or the reserved filter sets UNPRED; otherwise the SGI of the
written identifier, with the requester as source, becomes pending on exactly the existing interfaces
the filter and list select on which it is implemented and has the security the write asks for (Table
4-19); all other pending SGIs and everything else are unchanged. The requester is SOURCE_ID, in a
uniprocessor constantly processor 0 (R9(d)): that this holds of an access with REQV = 0 too is the
model's reading (log 8). (R281, R9, R100) -/
def Obligations.SgiWrite : Prop :=
  ∀ (s : State) (a : DistArgs) (data : Word), DistWordReady s a → Immediate s →
    let filter := (data.extractLsb' 24 2).toNat
    let id := (data.extractLsb' 0 4).toNat
    (sourceId s.cfg a.req = none → exec (.wrIcdsgir a data) s = .next s) ∧
    ∀ src, sourceId s.cfg a.req = some src →
      ((data.extractLsb' 4 11 ≠ 0#11 ∨ filter = 3) →
        ∃ t, exec (.wrIcdsgir a data) s = .next t ∧ t.unpred = true) ∧
      (data.extractLsb' 4 11 = 0#11 → filter ≠ 3 →
        ∃ b : BitVec 1024, exec (.wrIcdsgir a data) s = .next
            { s with gic := { s.gic with sgip := b } } ∧
          ∀ (t : Cpu) (n : Nat) (from_ : Cpu), n < 16 →
            (b.getLsbD (sgipIndex t n from_) = true ↔
              s.gic.sgip.getLsbD (sgipIndex t n from_) = true ∨
              (n = id ∧ from_ = src ∧ t.val < ncpu s.cfg ∧ implemented s.cfg t id = true ∧
                ((filter = 0 ∧ data.getLsbD (16 + t.val) = true) ∨ (filter = 1 ∧ t ≠ src) ∨
                  (filter = 2 ∧ t = src)) ∧
                (s.cfg.secext = true →
                  if a.ns = true then nsbOf s t id = true
                  else nsbOf s t id = data.getLsbD 15))))

/-- A read of ICCICR shows the fields of the copy the access reaches. A word read of ICCICR returns
EnableS in bit [0] without the Security Extensions; EnableNS in bit [0] to a Non-secure access;
SBPR, FIQEn, AckCtl, EnableNS, EnableS in bits [4:0] to a Secure access; every other bit is 0.
Nothing else changes. (R311) -/
def Obligations.IccicrRead : Prop :=
  ∀ (s : State) (a : CpuArgs), CpuWordReady s a →
    ∃ v : Word, exec (.rdIccicr a) s = .next
        { s with gic := { s.gic with readData := v } } ∧
      (∀ k, 5 ≤ k → v.getLsbD k = false) ∧
      (v.getLsbD 0 = if s.cfg.secext = true ∧ a.ns = true then (s.ifc a.ifc).enableNS
        else (s.ifc a.ifc).enableS) ∧
      (v.getLsbD 1 = (s.cfg.secext && !a.ns && (s.ifc a.ifc).enableNS)) ∧
      (v.getLsbD 2 = (s.cfg.secext && !a.ns && (s.ifc a.ifc).ackCtl)) ∧
      (v.getLsbD 3 = (s.cfg.secext && !a.ns && (s.ifc a.ifc).fiqEn)) ∧
      (v.getLsbD 4 = (s.cfg.secext && !a.ns && (s.ifc a.ifc).sbpr))

/-- A write of ICCICR sets the fields of the copy it reaches, under lockdown only EnableNS. A word write
of ICCICR: without the Security Extensions EnableS takes data[0]; Non-secure, EnableNS takes
data[0]; Secure, EnableNS takes data[1] and, unless lockdown is active, EnableS, AckCtl, FIQEn, SBPR
take data[0], [2], [3], [4]. Nothing else of this or any other interface or of the GIC changes.
(R312) -/
def Obligations.IccicrWrite : Prop :=
  ∀ (s : State) (a : CpuArgs) (data : Word), CpuWordReady s a →
    let all := s.cfg.secext = true ∧ a.ns = false ∧ lockActive s = false
    exec (.wrIccicr a data) s = .next (s.withIfc a.ifc { s.ifc a.ifc with
      enableS := if s.cfg.secext = false ∨ all then data.getLsbD 0 else (s.ifc a.ifc).enableS,
      enableNS := if s.cfg.secext = false then (s.ifc a.ifc).enableNS
        else if a.ns = true then data.getLsbD 0 else data.getLsbD 1,
      ackCtl := if all then data.getLsbD 2 else (s.ifc a.ifc).ackCtl,
      fiqEn := if all then data.getLsbD 3 else (s.ifc a.ifc).fiqEn,
      sbpr := if all then data.getLsbD 4 else (s.ifc a.ifc).sbpr })

/-- A read of ICCPMR returns the mask in the view of the access, 0 to a Non-secure access while it is
below 0x80. A word read of ICCPMR returns PMR, or to a Non-secure access with the Security
Extensions 0 while PMR is below 0x80 and twice the implemented bits of PMR modulo 256 otherwise.
Nothing else changes. In a state that meets the invariant the unimplemented bits of PMR, and so of
the value of a Secure read, are 0. (R313) -/
def Obligations.IccpmrRead : Prop :=
  ∀ (s : State) (a : CpuArgs), CpuWordReady s a →
    ∃ v : Word, exec (.rdIccpmr a) s = .next
        { s with gic := { s.gic with readData := v } } ∧
      (v.toNat = if s.cfg.secext = true ∧ a.ns = true then
          (if (s.ifc a.ifc).pmr.toNat < 128 then 0
            else 2 * ((s.ifc a.ifc).pmr &&& pMask s.cfg).toNat % 256)
        else (s.ifc a.ifc).pmr.toNat) ∧
      (Inv s → s.cfg.secext = false ∨ a.ns = false →
        v &&& (~~~ pMask s.cfg).setWidth 32 = 0#32)

/-- A write of ICCPMR stores the mask through the view of the access; Non-secure only while bit [7] is
1. A word write of ICCPMR stores data[7:0] AND P_MASK; a Non-secure write with the Security
Extensions stores (0x80 OR data[7:0]/2) AND P_MASK if PMR is 0x80 or more and is ignored otherwise.
Nothing else changes. (R314) -/
def Obligations.IccpmrWrite : Prop :=
  ∀ (s : State) (a : CpuArgs) (data : Word), CpuWordReady s a →
    exec (.wrIccpmr a data) s = .next
      (if s.cfg.secext = true ∧ a.ns = true then
        (if 128 ≤ (s.ifc a.ifc).pmr.toNat then
          s.withIfc a.ifc { s.ifc a.ifc with
            pmr := (0x80#8 ||| (data.extractLsb' 0 8 >>> 1)) &&& pMask s.cfg }
        else s)
      else s.withIfc a.ifc { s.ifc a.ifc with pmr := data.extractLsb' 0 8 &&& pMask s.cfg })

/-- ICCBPR and ICCABPR read and write the binary point of the copy they reach, saturated to the minimum.
A word read of ICCBPR returns BPR_NS to a Non-secure access with the Security Extensions and BPR_S
otherwise; of ICCABPR, BPR_NS to a Secure access with the Security Extensions and 0 otherwise. A
word write of ICCBPR stores the larger of data[2:0] and the minimum in the copy so reached; of
ICCABPR in BPR_NS, or is ignored where it reads 0; lockdown does not matter. Nothing else changes.
In a state that meets the invariant a value read from ICCBPR is not below the minimum. (R315, R316,
R323, R324) -/
def Obligations.BinaryPoints : Prop :=
  ∀ (s : State) (a : CpuArgs), CpuWordReady s a →
    (∃ v : Word, exec (.rdIccbpr a) s = .next
        { s with gic := { s.gic with readData := v } } ∧
      (v.toNat = if s.cfg.secext = true ∧ a.ns = true then (s.ifc a.ifc).bprNS.toNat
        else (s.ifc a.ifc).bprS.toNat) ∧
      (Inv s → minimumBinaryPoint s.cfg ≤ v.toNat)) ∧
    (∃ v : Word, exec (.rdIccabpr a) s = .next
        { s with gic := { s.gic with readData := v } } ∧
      v.toNat = if s.cfg.secext = true ∧ a.ns = false then (s.ifc a.ifc).bprNS.toNat else 0) ∧
    ∀ data : Word, ∃ b : BitVec 3,
      b.toNat = max (data.toNat % 8) (minimumBinaryPoint s.cfg) ∧
      exec (.wrIccbpr a data) s = .next (s.withIfc a.ifc
        (if s.cfg.secext = true ∧ a.ns = true then { s.ifc a.ifc with bprNS := b }
          else { s.ifc a.ifc with bprS := b })) ∧
      exec (.wrIccabpr a data) s = .next
        (if s.cfg.secext = true ∧ a.ns = false then
          s.withIfc a.ifc { s.ifc a.ifc with bprNS := b } else s)

/-- A read of ICCIAR that obtains no interrupt returns 1023 or 1022 as Table 4-30 says and acknowledges
nothing. A word read of ICCIAR that obtains no SPI through a double-acknowledge window: with no
candidate, or the highest priority pending interrupt not signalable, or a Secure one and a Non-
secure read, it returns 1023; with a Non-secure one, a Secure read and AckCtl = 0, it returns 1022.
Nothing else changes but that the interface leaves every open window, and the count of values drawn,
which is the model's own (log 5). (R317, R432, R441) -/
def Obligations.AcknowledgeSpurious : Prop :=
  ∀ (s : State) (a : CpuArgs), CpuWordReady s a → windowSpi s a.ifc a.ns = none →
    let c := a.ifc
    let after := fun (v : Word) => { (s.withIfc c { s.ifc c with ackWindow := 0#1244 }).respond v with
      tick := s.tick + 1 }
    ((hppi s c = none ∨ ∃ p, hppi s c = some p ∧ (signalable s c p.id = false ∨
        (s.cfg.secext = true ∧ isSecureInt s c p.id = true ∧ a.ns = true))) →
      exec (.rdIcciar a) s = .next (after 0x3FF#32)) ∧
    ((∃ p, hppi s c = some p ∧ signalable s c p.id = true ∧ s.cfg.secext = true ∧
        isSecureInt s c p.id = false ∧ a.ns = false ∧ (s.ifc c).ackCtl = false) →
      exec (.rdIcciar a) s = .next (after 0x3FE#32))

/-- A read of ICCIAR that obtains an interrupt returns it, makes it active and clears just its pending
state. A word read of ICCIAR that obtains no SPI through a window, with a signalable highest
priority pending interrupt p whose security the access may acknowledge, returns source and
identifier of p; appends (id, src, PRI) to the active list of the interface and to no other; clears
just the pending bit of that SGI instance, or the latch of that interrupt; closes the windows of the
reader and, for an SPI where allowed, opens that of the interfaces that would also have obtained it.
Nothing else changes but the count of values drawn, which is the model's own (log 5). (R317, R431,
R432, R92) -/
def Obligations.AcknowledgeValid : Prop :=
  ∀ (s : State) (a : CpuArgs) (p : IntRef), CpuWordReady s a → windowSpi s a.ifc a.ns = none →
    hppi s a.ifc = some p → signalable s a.ifc p.id = true →
    (s.cfg.secext = true → isSecureInt s a.ifc p.id = true → a.ns = false) →
    (s.cfg.secext = true → isSecureInt s a.ifc p.id = false → a.ns = false →
      (s.ifc a.ifc).ackCtl = true) →
    ∃ t, exec (.rdIcciar a) s = .next t ∧
      t = { s with
        gic := { s.gic with
          readData := t.gic.readData, ifcs := t.gic.ifcs, latch := t.gic.latch, sgip := t.gic.sgip },
        tick := s.tick + 1 } ∧
      t.gic.readData.toNat = 1024 * p.src.val + p.id ∧
      (∀ d, t.ifc d = { s.ifc d with
        active := (t.ifc d).active, ackWindow := (t.ifc d).ackWindow }) ∧
      (∀ d, (t.ifc d).active = if d = a.ifc then
        (s.ifc d).active ++ [{ id := p.id, src := p.src, pri := priOf s a.ifc p.id }]
        else (s.ifc d).active) ∧
      (∀ k, t.gic.latch.getLsbD k =
        (s.gic.latch.getLsbD k && !decide (16 ≤ p.id ∧ k = slot a.ifc p.id))) ∧
      (∀ k, t.gic.sgip.getLsbD k =
        (s.gic.sgip.getLsbD k && !decide (p.id < 16 ∧ k = sgipIndex a.ifc p.id p.src))) ∧
      (∀ k, (t.ifc a.ifc).ackWindow.getLsbD k = false) ∧
      (∀ d, d ≠ a.ifc → ∀ n, 32 ≤ n → n < 1020 →
        ((t.ifc d).ackWindow.getLsbD (slot d n) = true ↔
          if n = p.id ∧ s.cfg.spiDoubleAck = .allowed then
            d.val < ncpu s.cfg ∧ { id := n, src := 0 } ∈ topCands s d ∧ signalable s d n = true
          else (s.ifc d).ackWindow.getLsbD (slot d n) = true))

/-- A read of ICCIAR obtains through a double-acknowledge window no SPI, or one whose window is open to
it. Whether a word read of ICCIAR obtains an SPI through a window is a free choice of the model (log
5). If it does, then for that SPI n double acknowledge is implemented, the interface is in
ACKWIN(n), n is not active on it and is signalable, and the access may acknowledge it; the read
returns n, appends (n, 0, PRI) to the active list of the interface, closes its windows, and changes
nothing else but the count of values drawn. With no open window it obtains none. (R441, R42) -/
def Obligations.AcknowledgeWindow : Prop :=
  ∀ (s : State) (a : CpuArgs), CpuWordReady s a →
    let c := a.ifc
    ((∀ n, 32 ≤ n → n < 1020 → (s.ifc c).ackWindow.getLsbD (slot c n) = false) →
      windowSpi s c a.ns = none) ∧
    (windowSpi s c a.ns = none ∨ ∃ n, windowSpi s c a.ns = some n ∧
      s.cfg.spiDoubleAck = .allowed ∧ 32 ≤ n ∧ n < 1020 ∧
      (s.ifc c).ackWindow.getLsbD (slot c n) = true ∧ act s c n = false ∧
      signalable s c n = true ∧
      (s.cfg.secext = true → isSecureInt s c n = true → a.ns = false) ∧
      (s.cfg.secext = true → isSecureInt s c n = false → a.ns = false →
        (s.ifc c).ackCtl = true) ∧
      exec (.rdIcciar a) s = .next
        { (s.withIfc c { s.ifc c with
            active := (s.ifc c).active ++ [{ id := n, src := 0, pri := priOf s c n }],
            ackWindow := 0#1244 }).respond (BitVec.ofNat 32 n) with tick := s.tick + 1 })

/-- A write of ICCEOIR removes the named interrupt from the active list where it may; a mismatch is
UNPREDICTABLE. A word write of ICCEOIR, the active list having no identifier twice: 1023, and 1022
with the Security Extensions, is ignored; an identifier that is not active, or a CPUID other than
the source of the SGI in a multiprocessor or other than 0 elsewhere, sets UNPRED; where Table 4-32
says No nothing changes; the newest entry, or any entry with remove_matching, leaves the active list
of this interface, for an SPI its windows close where implemented, and nothing else changes; any
other order sets UNPRED. (R319, R433, R434, R36) -/
def Obligations.EndOfInterrupt : Prop :=
  ∀ (s : State) (a : CpuArgs) (data : Word), CpuWordReady s a → ActiveNodup s →
    let c := a.ifc
    let n := (data.extractLsb' 0 10).toNat
    let cpuid := (data.extractLsb' 10 3).toNat
    ((n = 1023 ∨ (n = 1022 ∧ s.cfg.secext = true)) → exec (.wrIcceoir a data) s = .next s) ∧
    (¬ (n = 1023 ∨ (n = 1022 ∧ s.cfg.secext = true)) →
      ((∀ e ∈ (s.ifc c).active, e.id ≠ n) →
        ∃ t, exec (.wrIcceoir a data) s = .next t ∧ t.unpred = true) ∧
      ∀ e ∈ (s.ifc c).active, e.id = n →
        let cpuidOk := if n < 16 ∧ ncpu s.cfg ≠ 1 then cpuid = e.src.val else cpuid = 0
        let permitted := s.cfg.secext = true →
          if isSecureInt s c n = true then a.ns = false
          else a.ns = true ∨ (s.ifc c).ackCtl = true
        let inOrder := (s.ifc c).active.getLast? = some e ∨
          s.cfg.eoiOrderViolation = .removeMatching
        (¬ cpuidOk → ∃ t, exec (.wrIcceoir a data) s = .next t ∧ t.unpred = true) ∧
        (cpuidOk → ¬ permitted → exec (.wrIcceoir a data) s = .next s) ∧
        (cpuidOk → permitted → ¬ inOrder →
          ∃ t, exec (.wrIcceoir a data) s = .next t ∧ t.unpred = true) ∧
        (cpuidOk → permitted → inOrder →
          ∃ t, exec (.wrIcceoir a data) s = .next t ∧
            t = { s with gic := { s.gic with ifcs := t.gic.ifcs } } ∧
            (∀ d, t.ifc d = { s.ifc d with
              active := (t.ifc d).active, ackWindow := (t.ifc d).ackWindow }) ∧
            (∀ x, x ∈ (t.ifc c).active ↔ x ∈ (s.ifc c).active ∧ x.id ≠ n) ∧
            (t.ifc c).active.Sublist (s.ifc c).active ∧
            (∀ d, d ≠ c → (t.ifc d).active = (s.ifc d).active) ∧
            ∀ d k, (t.ifc d).ackWindow.getLsbD k = ((s.ifc d).ackWindow.getLsbD k &&
              !decide (32 ≤ n ∧ s.cfg.spiDoubleAck = .allowed ∧ k = slot d n))))

/-- Completing an interrupt with the value just read from ICCIAR restores the active lists. For every
state and accepted access: if a word read of ICCIAR obtains a valid interrupt (an identifier below
1020), then writing the value read to ICCEOIR by the same access completes, UNPRED stays clear, and
every active list is what it was before the read: the write is permitted, names the newest entry and
carries the right CPUID. (R435, R453, R418, R431, R433, R434) -/
def Obligations.AcknowledgeThenEnd : Prop :=
  ∀ (s t : State) (a : CpuArgs), CpuWordReady s a → exec (.rdIcciar a) s = .next t →
    t.gic.readData.toNat % 1024 < 1020 →
    ∃ u, exec (.wrIcceoir a t.gic.readData) t = .next u ∧ u.unpred = false ∧
      ∀ d, (u.ifc d).active = (s.ifc d).active

/-- Once an SPI is acknowledged no interface has it as a forwarding candidate. After a word read of
ICCIAR that returned the identifier of an SPI, the SPI is active on the reading interface and is a
forwarding candidate on no interface. It does not say that no other interface obtains the SPI: where
double acknowledge is implemented one may, through its window (R441). (R431, R439, R423, R441) -/
def Obligations.AcknowledgedSpiIsNoCandidate : Prop :=
  ∀ (s t : State) (a : CpuArgs), CpuWordReady s a → exec (.rdIcciar a) s = .next t →
    ∀ n, n = t.gic.readData.toNat % 1024 → 32 ≤ n → n < 1020 →
      act t a.ifc n = true ∧ ∀ d, cand t d n = false

/-- A read of ICCRPR returns the highest active priority, or an idle value, in the view of the access. A
word read of ICCRPR returns, to a Non-secure access with the Security Extensions as its Non-secure
view (0 below 0x80), the smallest priority of the active list, where each entry counts with its
recorded priority, or its current one if ACTIVE_PRIORITY_TRACKS_ICDIPR; with nothing active 0xFF or
P_MASK. Nothing changes but the value read, and with nothing active the count of values drawn (the
model's own, log 5). (R321, R49) -/
def Obligations.RunningPriorityRead : Prop :=
  ∀ (s : State) (a : CpuArgs), CpuWordReady s a →
    let view := fun (v : Byte) => if s.cfg.secext = true ∧ a.ns = true then
      (if v.toNat < 128 then 0#8 else (v &&& pMask s.cfg) <<< 1) else v
    let priority := fun (e : ActiveEntry) =>
      if s.cfg.activePriorityTracks = true then priOf s a.ifc e.id else e.pri
    ((s.ifc a.ifc).active = [] → ∃ v, (v = 0xFF#8 ∨ v = pMask s.cfg) ∧
      exec (.rdIccrpr a) s = .next { s with
        gic := { s.gic with readData := (view v).setWidth 32 }, tick := s.tick + 1 }) ∧
    ((s.ifc a.ifc).active ≠ [] → ∃ e ∈ (s.ifc a.ifc).active,
      (∀ e' ∈ (s.ifc a.ifc).active, (priority e).toNat ≤ (priority e').toNat) ∧
      exec (.rdIccrpr a) s = .next { s with
        gic := { s.gic with readData := (view (priority e)).setWidth 32 } })

/-- A read of ICCHPIR returns the highest priority pending interrupt as Table 4-35 says and acknowledges
nothing. A word read of ICCHPIR returns 1023 with no candidate. With the Security Extensions it
returns 1023 if the highest priority pending interrupt is not signalable or is Secure and the read
Non-secure, 1022 if it is Non-secure, the read Secure and AckCtl 0, its identifier and source
otherwise. Without them it returns 1023 if the interface is disabled, or if the priority filter is
implemented and the priority is not sufficient, and the interrupt otherwise. Nothing changes but the
value read and the count of values drawn, which is the model's own (log 5). (R325) -/
def Obligations.HighestPendingRead : Prop :=
  ∀ (s : State) (a : CpuArgs), CpuWordReady s a →
    let c := a.ifc
    ∃ v : Word, exec (.rdIcchpir a) s = .next
        { s with gic := { s.gic with readData := v }, tick := s.tick + 1 } ∧
      (hppi s c = none → v = 0x3FF#32) ∧
      ∀ p, hppi s c = some p →
        (s.cfg.secext = true → signalable s c p.id = false → v = 0x3FF#32) ∧
        (s.cfg.secext = true → signalable s c p.id = true →
          (isSecureInt s c p.id = true → a.ns = true → v = 0x3FF#32) ∧
          (isSecureInt s c p.id = true → a.ns = false → v.toNat = 1024 * p.src.val + p.id) ∧
          (isSecureInt s c p.id = false → (a.ns = true ∨ (s.ifc c).ackCtl = true) →
            v.toNat = 1024 * p.src.val + p.id) ∧
          (isSecureInt s c p.id = false → a.ns = false → (s.ifc c).ackCtl = false →
            v = 0x3FE#32)) ∧
        (s.cfg.secext = false →
          ((s.ifc c).enableS = false ∨
            (s.cfg.hpirPriorityFilter = true ∧ sufficientPriority s c p.id = false) →
              v = 0x3FF#32) ∧
          ((s.ifc c).enableS = true →
            (s.cfg.hpirPriorityFilter = false ∨ sufficientPriority s c p.id = true) →
              v.toNat = 1024 * p.src.val + p.id))

/-- Signalable is the priority mask, the group priority against the running priority, and the enable
that applies. For every binary point n in 0 to 7, saturated at the minimum: a priority is higher
than the running priority masked with GIC_PriorityMask exactly if its group priority field, the bits
from n+1 up (from n up for the Non-secure split), is smaller. An interrupt is signalable to an
interface exactly if its priority value is strictly below the priority mask; nothing is active
there, or its value is strictly below the smallest active priority (as recorded, or the current one
if ACTIVE_PRIORITY_TRACKS_ICDIPR) masked for BPR_S without the Security Extensions, for a Secure
interrupt and with SBPR 1, and for BPR_NS with the Non-secure split otherwise; and EnableS is 1
without the Security Extensions or for a Secure interrupt, EnableNS otherwise. (R426, R427, R438,
R425, R49) -/
def Obligations.GroupPriorityCompare : Prop :=
  (∀ (cfg : Config) (n : Nat) (ns : Bool) (p r : Byte), n ≤ 7 →
    let low := if ns = true then max n (minimumBinaryPoint cfg)
      else max n (minimumBinaryPoint cfg) + 1
    (priorityIsHigher p (r &&& gicPriorityMask cfg n ns) = true ↔
      p.toNat / 2 ^ low < r.toNat / 2 ^ low)) ∧
  (∀ (s : State) (c : Cpu) (n : Nat),
    let priority := fun (e : ActiveEntry) =>
      if s.cfg.activePriorityTracks = true then priOf s c e.id else e.pri
    let mask : Byte :=
      if s.cfg.secext = false ∨ isSecureInt s c n = true ∨ (s.ifc c).sbpr = true
      then gicPriorityMask s.cfg (s.ifc c).bprS.toNat false
      else gicPriorityMask s.cfg (s.ifc c).bprNS.toNat true
    (signalable s c n = true ↔
      (priOf s c n).toNat < (s.ifc c).pmr.toNat ∧
      ((s.ifc c).active = [] ∨ ∃ e ∈ (s.ifc c).active,
        (∀ e' ∈ (s.ifc c).active, (priority e).toNat ≤ (priority e').toNat) ∧
        (priOf s c n).toNat < (priority e &&& mask).toNat) ∧
      (if s.cfg.secext = false ∨ isSecureInt s c n = true then (s.ifc c).enableS = true
        else (s.ifc c).enableNS = true)))

/-- An interrupt is pending by its latch or, level-sensitive, by its line while the Distributor is
enabled for it. A peripheral interrupt is pending exactly if it is latched, or level-sensitive with
its line HIGH and the Distributor enable that applies to it 1; an SGI exactly if some existing
processor has generated it for the interface. (R46) -/
def Obligations.PendingStatus : Prop :=
  ∀ (s : State) (c : Cpu) (n : Nat),
    (16 ≤ n → (pend s c n = true ↔ latchOf s c n = true ∨
      (edgeOf s c n = false ∧ lineOf s c n = true ∧ fwdEn s c n = true))) ∧
    (n < 16 → (pend s c n = true ↔ ∃ src : Cpu, src.val < ncpu s.cfg ∧
      s.gic.sgip.getLsbD (sgipIndex c n src) = true))

/-- The highest priority pending interrupt is the candidate of smallest priority; only it is signalled,
never one that is active. An instance is a candidate for an interface if it is implemented, enabled,
forwarded and not active there; an SGI instance (identifier below 16) is pending from its source;
any other has source 0 and is pending, and an SPI targets the interface (every interface counts in a
uniprocessor) and is active on none. HPPI(c) is none exactly if there is no candidate; otherwise it
is a candidate whose priority value is not above that of any candidate (which of several equal ones
is free, log 5). If the evaluation of an interface asserts IRQ or FIQ, HPPI(c) is such an instance
and is signalable; not both are asserted. (R423, R424, R428, R443) -/
def Obligations.NeverSignalsActive : Prop :=
  ∀ (s : State) (c : Cpu),
    let candidate := fun (p : IntRef) =>
      implemented s.cfg c p.id = true ∧ enOf s c p.id = true ∧ fwdEn s c p.id = true ∧
      act s c p.id = false ∧ (p.id < 16 → sgipOf s c p.id p.src = true) ∧
      (16 ≤ p.id → p.src = 0 ∧ pend s c p.id = true) ∧
      (32 ≤ p.id → (ncpu s.cfg = 1 ∨ (tgtOf s p.id).getLsbD c.val = true) ∧
        ∀ d, act s d p.id = false)
    (hppi s c = none ↔ ∀ p, ¬ candidate p) ∧
    (∀ p, hppi s c = some p → candidate p ∧
      ∀ q, candidate q → (priOf s c p.id).toNat ≤ (priOf s c q.id).toNat) ∧
    ¬ ((nextOutputs s c).1 = true ∧ (nextOutputs s c).2 = true) ∧
    ((nextOutputs s c).1 = true ∨ (nextOutputs s c).2 = true →
      ∃ p, hppi s c = some p ∧ candidate p ∧ signalable s c p.id = true)

/-- A rising line latches an edge-triggered interrupt the Distributor is enabled for; a falling line
changes only the line. With UNPRED clear and the line of an implemented peripheral interrupt LOW,
LINE_RISE makes it HIGH and sets the latch exactly if the interrupt is edge-triggered and the
Distributor enable that applies to it is 1; with the line HIGH, LINE_FALL makes it LOW. Nothing else
changes, the event itself being taken from the queue. (R381, R382) -/
def Obligations.LineEvents : Prop :=
  ∀ (s : State) (c : Cpu) (n : Nat) (rest : List Input), s.unpred = false → 16 ≤ n →
    implemented s.cfg c n = true →
    (s.inputs = .lineRise c n :: rest → lineOf s c n = false →
      ∃ l h : Bits, step s = .next
          { s with inputs := rest, line := l, gic := { s.gic with latch := h } } ∧
        (∀ k, l.getLsbD k = (s.line.getLsbD k || decide (k = slot c n))) ∧
        ∀ k, h.getLsbD k = (s.gic.latch.getLsbD k ||
          (decide (k = slot c n) && edgeOf s c n && fwdEn s c n))) ∧
    (s.inputs = .lineFall c n :: rest → lineOf s c n = true →
      ∃ l : Bits, step s = .next { s with inputs := rest, line := l } ∧
        ∀ k, l.getLsbD k = (s.line.getLsbD k && !decide (k = slot c n)))

/-- CFGSDISABLE and the legacy inputs take the level the system drives, and nothing else changes. With
UNPRED clear, CFGSDISABLE_SET(v) sets CFGSDISABLE to v; LEGACY_IRQ(c,v) and, with the Security
Extensions, LEGACY_FIQ(c,v) set the legacy input of an existing interface with pass-through. Nothing
else changes, the event itself being taken from the queue. A legacy input that does not exist is
refused, which is the model's choice (log 10). (R383, R384) -/
def Obligations.SystemInputs : Prop :=
  ∀ (s : State) (c : Cpu) (v : Bool) (rest : List Input), s.unpred = false →
    (s.inputs = .cfgsdisableSet v :: rest →
      step s = .next { s with inputs := rest, cfgsdisable := v }) ∧
    (s.inputs = .legacyIrq c v :: rest →
      (cpuExists s.cfg c = true → passThrough s.cfg c = true →
        ∃ l : BitVec 8, step s = .next { s with inputs := rest, legacyIrq := l } ∧
          ∀ k, k < 8 → l.getLsbD k = if k = c.val then v else s.legacyIrq.getLsbD k) ∧
      (cpuExists s.cfg c = false ∨ passThrough s.cfg c = false → ∃ r, step s = .refused r)) ∧
    (s.inputs = .legacyFiq c v :: rest →
      (cpuExists s.cfg c = true → passThrough s.cfg c = true → s.cfg.secext = true →
        ∃ l : BitVec 8, step s = .next { s with inputs := rest, legacyFiq := l } ∧
          ∀ k, k < 8 → l.getLsbD k = if k = c.val then v else s.legacyFiq.getLsbD k) ∧
      (cpuExists s.cfg c = false ∨ passThrough s.cfg c = false ∨ s.cfg.secext = false →
        ∃ r, step s = .refused r))

/-- RESET gives every variable its reset value and clears UNPRED; the inputs stay as they are. RESET,
from any state, completes: the enables of the Distributor and of every interface, AckCtl, FIQEn,
SBPR, the mask, the latches, the pending SGIs, the active lists, the outputs and the windows are 0
or empty, the binary points are the minimum, the enables and trigger modes are EN_RESET and
CFG_RESET, every priority and target is 0, SPIs are Secure and private interrupts have the security
of ICDISR0_RESET, no write is queued, UNPRED is clear; the parameters, the lines, CFGSDISABLE and
the legacy inputs are unchanged. That the value last read is 0 after reset is the model's choice
(log 4). (R54, R387, R43) -/
def Obligations.ResetEvent : Prop :=
  ∀ (s : State) (rest : List Input), s.inputs = .reset :: rest →
    ∃ t, step s = .next t ∧
      t = { s with inputs := rest, unpred := false, gic := t.gic } ∧
      t.gic.dcrS = false ∧ t.gic.dcrNS = false ∧ t.gic.latch = 0#1244 ∧ t.gic.sgip = 0#1024 ∧
      t.gic.wq = [] ∧ t.gic.readData = 0#32 ∧
      (∀ c n, enOf t c n = (permanentlyEnabled s.cfg c n || s.cfg.enReset.getLsbD (slot c n))) ∧
      (∀ c n, edgeOf t c n = s.cfg.cfgReset.getLsbD (slot c n)) ∧
      (∀ c n, fixedPriority s.cfg c n = none → priOf t c n = 0#8) ∧
      (∀ n, spiTargetFixed s.cfg n = none → tgtOf t n = 0#8) ∧
      (∀ c n, alwaysSecure s.cfg c n = false → alwaysNs s.cfg c n = false →
        nsbOf t c n = (decide (n < 32) && s.cfg.icdisr0Reset.getLsbD (slot c n))) ∧
      ∀ c, t.ifc c =
        { enableS := false
          enableNS := false
          ackCtl := false
          fiqEn := false
          sbpr := false
          pmr := 0#8
          bprS := BitVec.ofNat 3 (minimumBinaryPoint s.cfg)
          bprNS := BitVec.ofNat 3 (minimumBinaryPoint s.cfg)
          active := []
          irq := false
          fiq := false
          ackWindow := 0#1244 }

/-- EVALUATE(c) asserts IRQ or FIQ for the signalable highest priority pending interrupt and writes
nothing else. EVALUATE(c) for an existing interface with UNPRED clear: FIQ(c), only with the
Security Extensions, is TRUE exactly if the highest priority pending interrupt is signalable, Secure
and FIQEn is 1; IRQ(c) exactly if it is signalable and not so routed. Nothing else changes but the
count of values drawn (the model's own, log 5) and the event itself being taken from the queue. What
the highest priority pending interrupt and Signalable are, NeverSignalsActive and
GroupPriorityCompare say. (R385, R428) -/
def Obligations.EvaluateOutputs : Prop :=
  ∀ (s : State) (c : Cpu) (rest : List Input), s.unpred = false → cpuExists s.cfg c = true →
    s.inputs = .evaluate c :: rest →
    ∃ irq fiq : Bool, step s = .next
        { s.withIfc c { s.ifc c with irq := irq, fiq := fiq } with
          inputs := rest, tick := s.tick + 1 } ∧
      (irq = true ↔ ∃ p, hppi s c = some p ∧ signalable s c p.id = true ∧
        ¬ (s.cfg.secext = true ∧ isSecureInt s c p.id = true ∧ (s.ifc c).fiqEn = true)) ∧
      (s.cfg.secext = true → (fiq = true ↔ ∃ p, hppi s c = some p ∧ signalable s c p.id = true ∧
        isSecureInt s c p.id = true ∧ (s.ifc c).fiqEn = true)) ∧
      (s.cfg.secext = false → fiq = (s.ifc c).fiq)

/-- The pins carry the GIC outputs, or the legacy inputs where pass-through is implemented and Table
4-26 says so. Without pass-through the IRQ pin is IRQ and, with the Security Extensions, the FIQ pin
is FIQ. With it, the IRQ pin is driven by the GIC exactly in the rows of Table 4-26 that say so
(without the Security Extensions exactly with EnableS = 1), the FIQ pin exactly with FIQEn = EnableS
= 1, and each carries the legacy input otherwise. There is no FIQ pin without the Security
Extensions. (R386) -/
def Obligations.OutputPins : Prop :=
  ∀ (s : State) (c : Cpu),
    let i := s.ifc c
    let irqByGic := if s.cfg.secext = true then
        (i.fiqEn, i.enableS, i.enableNS) ∈ [(false, false, true), (false, true, false),
          (false, true, true), (true, false, true), (true, true, true)]
      else i.enableS = true
    let fiqByGic := (i.fiqEn, i.enableS) = (true, true)
    ((passThrough s.cfg c = false ∨ irqByGic) → irqPin s c = i.irq) ∧
    (passThrough s.cfg c = true → ¬ irqByGic → irqPin s c = s.legacyIrq.getLsbD c.val) ∧
    (s.cfg.secext = true → (passThrough s.cfg c = false ∨ fiqByGic) → fiqPin s c = i.fiq) ∧
    (s.cfg.secext = true → passThrough s.cfg c = true → ¬ fiqByGic →
      fiqPin s c = s.legacyFiq.getLsbD c.val) ∧
    (s.cfg.secext = false → fiqPin s c = false)

/-- CLOSE_ACK_WINDOW(n) empties the window of n and changes nothing else. CLOSE_ACK_WINDOW(n) for an SPI
n with double acknowledge implemented and UNPRED clear removes every interface from ACKWIN(n);
nothing else changes, the event itself being taken from the queue. (R388) -/
def Obligations.CloseAckWindow : Prop :=
  ∀ (s : State) (n : Nat) (rest : List Input), s.unpred = false →
    s.cfg.spiDoubleAck = .allowed → 32 ≤ n → n < 1020 → s.inputs = .closeAckWindow n :: rest →
    ∃ t, step s = .next t ∧
      t = { s with inputs := rest, gic := { s.gic with ifcs := t.gic.ifcs } } ∧
      ∀ d, t.ifc d = { s.ifc d with ackWindow := (t.ifc d).ackWindow } ∧
        ∀ k, (t.ifc d).ackWindow.getLsbD k =
          ((s.ifc d).ackWindow.getLsbD k && !decide (k = slot d n))

/-- A delayed Distributor write only joins the queue; APPLY_WRITE performs the oldest one as an
immediate write would. Where writes are delayed, every accepted Distributor write, with UNPRED
clear, appends itself to WQ and changes nothing else. Where they are immediate it performs the write
at once. APPLY_WRITE with UNPRED clear takes the oldest write from WQ and performs exactly that
effect on the current state. The effect of performing a write does not depend on the latency, so it
is that of the statements about immediate writes. That a write is queued before its size and
alignment are checked (log 16), and that APPLY_WRITE with WQ empty changes nothing (log 25), are the
model's reading. (R391) -/
def Obligations.DelayedWrites : Prop :=
  (∀ (i : Instr) (s : State), (accessInfo i).write = true → (accessInfo i).ifc = none →
    s.unpred = false → Accepted s i →
    (s.cfg.distWriteLatency = .delayed →
      exec i s = .next { s with gic := { s.gic with wq := s.gic.wq ++ [i] } }) ∧
    (s.cfg.distWriteLatency = .immediate → exec i s = .next (performWrite i s))) ∧
  (∀ (i : Instr) (s : State) (l : DistWriteLatency),
    performWrite i (s.withLatency l) = (performWrite i s).withLatency l) ∧
  (∀ (s : State) (i : Instr) (q : List Instr) (rest : List Input), s.unpred = false →
    s.inputs = .applyWrite :: rest → s.gic.wq = i :: q →
    step s = .next (performWrite i { s with inputs := rest, gic := { s.gic with wq := q } })) ∧
  (∀ (s : State) (rest : List Input), s.unpred = false →
    s.inputs = .applyWrite :: rest → s.gic.wq = [] → step s = .next { s with inputs := rest })

/-- Every step keeps the invariants of R56. For every state that meets the invariant (no identifier
twice in an active list; an SPI active on one interface only without double acknowledge; only
implemented interrupts active, latched, pending or in a window; masked priorities and masks;
saturated binary points; no target that does not exist; no security controls without the Security
Extensions; no queued write without delayed writes; each while UNPRED is clear), every next state of
the step meets it. (R56, R391) -/
def Obligations.InvariantKept : Prop :=
  ∀ s t : State, Inv s → step s = .next t → Inv t

/-- The invariants of R56 hold after reset. The reset state of every configuration, and so the machine's
own, meets the invariant. (R54, R56) -/
def Obligations.InvariantAtReset : Prop :=
  (∀ cfg : Config, Inv (State.resetWith cfg)) ∧ Inv State.reset

/-- Once UNPRED is set only RESET clears it. For every state with UNPRED set, a step other than RESET
that answers a next state leaves UNPRED set. (R43, R13) -/
def Obligations.UnpredictableUntilReset : Prop :=
  ∀ s t : State, s.unpred = true → step s = .next t →
    t.unpred = true ∨ ∃ rest, s.inputs = .reset :: rest

/-- Only a read of ICCIAR makes an interrupt active, and only a write of ICCEOIR or RESET makes it
inactive. For every step with UNPRED clear before and after: if an interrupt becomes active on an
interface, the step was a read of that interface's ICCIAR; if it ceases to be active, the step was a
write of that interface's ICCEOIR with its identifier, or RESET. (R421, R418, R420) -/
def Obligations.ActiveOnlyByAcknowledge : Prop :=
  ∀ s t : State, s.unpred = false → step s = .next t → t.unpred = false → ∀ (c : Cpu) (n : Nat),
    (act s c n = false → act t c n = true →
      ∃ x rest a, s.inputs = x :: rest ∧ x.instr s.cfg = some (.rdIcciar a) ∧ a.ifc = c) ∧
    (act s c n = true → act t c n = false →
      (∃ rest, s.inputs = .reset :: rest) ∨
      ∃ x rest a d, s.inputs = x :: rest ∧ x.instr s.cfg = some (.wrIcceoir a d) ∧ a.ifc = c ∧
        (d.extractLsb' 0 10).toNat = n)

/-- Only a write of ICDSGIR makes an SGI pending, when it is performed, and only a read of ICCIAR or
RESET removes its pending state. For every step with UNPRED clear before and after: if an SGI
instance becomes pending, the step was a write of ICDSGIR where writes are immediate, or it was
APPLY_WRITE or a step with no operation waiting (log 3) and the oldest queued write was one of
ICDSGIR; if it ceases to be pending, the step was a read of its interface's ICCIAR or RESET. (R412,
R414, R416, R391) -/
def Obligations.SgiPendingTransitions : Prop :=
  ∀ s t : State, s.unpred = false → step s = .next t → t.unpred = false →
    ∀ (c : Cpu) (n : Nat) (src : Cpu),
    (sgipOf s c n src = false → sgipOf t c n src = true →
      (Immediate s ∧ ∃ x rest a d, s.inputs = x :: rest ∧
        x.instr s.cfg = some (.wrIcdsgir a d)) ∨
      ((s.inputs = [] ∨ ∃ rest, s.inputs = .applyWrite :: rest) ∧
        ∃ a d q, s.gic.wq = .wrIcdsgir a d :: q)) ∧
    (sgipOf s c n src = true → sgipOf t c n src = false →
      (∃ rest, s.inputs = .reset :: rest) ∨
      ∃ x rest a, s.inputs = x :: rest ∧ x.instr s.cfg = some (.rdIcciar a) ∧ a.ifc = c)

/-- The outputs change only at an evaluation or a reset. For every step with UNPRED clear before and
after: if IRQ(c) or FIQ(c) changes, the step was EVALUATE(c), RESET, or a step with no operation
waiting (which evaluates every interface, log 3). (R40, R385, R387) -/
def Obligations.OutputsOnlyByEvaluate : Prop :=
  ∀ s t : State, s.unpred = false → step s = .next t → t.unpred = false → ∀ c : Cpu,
    ((t.ifc c).irq ≠ (s.ifc c).irq ∨ (t.ifc c).fiq ≠ (s.ifc c).fiq) →
      s.inputs = [] ∨ ∃ rest, s.inputs = .evaluate c :: rest ∨ s.inputs = .reset :: rest

/-- A Non-secure access changes nothing that belongs to a Secure interrupt, and no Secure control. With
the Security Extensions, for every instruction made as a Non-secure access, executed at once or
performed later from the queue, with UNPRED clear before and after: every Secure interrupt keeps its
security, enable, priority, targets and trigger mode, its latch and pending SGIs (unless the
implementation both lets either Enable govern every interrupt and counts a HIGH line as an edge at
enable), and its active state on every interface; DCR_S and the Secure fields of every interface are
unchanged. (R103, R106, R102, R434, R446) -/
def Obligations.NonsecureIsolation : Prop :=
  ∀ (i : Instr) (s t : State), s.cfg.secext = true → (accessInfo i).ns = true →
    s.unpred = false → (exec i s = .next t ∨ t = performWrite i s) → t.unpred = false →
    (∀ c n, isSecureInt s c n = true → SameConfig s t c n ∧ act t c n = act s c n ∧
      (s.cfg.distEnablePolicy ≠ .either ∨ s.cfg.edgeHighAtEnable = .noEdge → SamePending s t c n)) ∧
    SameSecureControls s t

/-- While lockdown is active no step but RESET changes what is locked down. For every step with lockdown
active and UNPRED clear before and after, other than RESET: every locked SPI keeps its security,
enable, priority, targets and trigger mode, and DCR_S, EnableS, AckCtl, FIQEn and SBPR of every
interface are unchanged. (R107, R450) -/
def Obligations.LockdownFrame : Prop :=
  ∀ s t : State, s.unpred = false → lockActive s = true → step s = .next t → t.unpred = false →
    (∃ rest, s.inputs = .reset :: rest) ∨
    ((∀ c n, locked s n = true → SameConfig s t c n) ∧ t.gic.dcrS = s.gic.dcrS ∧
      ∀ c, (t.ifc c).enableS = (s.ifc c).enableS ∧ (t.ifc c).ackCtl = (s.ifc c).ackCtl ∧
        (t.ifc c).fiqEn = (s.ifc c).fiqEn ∧ (t.ifc c).sbpr = (s.ifc c).sbpr)
end

