-- ==== Sys2Proof/Laws/Bits.lean ====
section
/-! SUPPORT. What the bit, byte, slot and choice operations do. -/

namespace Sys2Proof.Machine

/-! ### bitsOf and putBit -/

theorem getLsbD_bitsOf (w : Nat) (f : Nat → Bool) (i : Nat) :
    (bitsOf w f).getLsbD i = (decide (i < w) && f i) := by
  induction w with
  | zero => simp [bitsOf]
  | succ w ih =>
    rw [bitsOf, BitVec.getLsbD_cons, ih]
    by_cases h : i = w
    · subst h; simp
    · rw [if_neg h]
      by_cases h' : i < w
      · simp [h', Nat.lt_succ_of_lt h']
      · have : ¬ i < w + 1 := by omega
        simp [h', this]

theorem getLsbD_putBit {w : Nat} (b : BitVec w) (i j : Nat) (v : Bool) :
    (putBit b i v).getLsbD j = if j = i ∧ j < w then v else b.getLsbD j := by
  unfold putBit
  by_cases hj : j < w
  · by_cases hi : i = j
    · subst hi
      cases v <;> simp [hj]
    · have hi' : ¬ j = i := fun e => hi e.symm
      cases v <;> simp [hj, hi']
  · have h1 : ∀ x : BitVec w, x.getLsbD j = false := fun x => BitVec.getLsbD_of_ge x j (by omega)
    simp [h1, hj]

/-! ### Bytes -/

theorem getByte_putByte (b : Bytes) (i j : Nat) (v : Byte) :
    getByte (putByte b i v) j = if j = i ∧ j < 1244 then v else getByte b j := by
  unfold getByte putByte
  rw [List.getElem?_set]
  by_cases h : i = j
  · subst h
    by_cases hl : i < 1244
    · simp [hl, b.size]
    · simp [hl, b.size]
  · have h' : ¬ j = i := fun e => h e.symm
    simp [h, h']

theorem getByte_of_ge (b : Bytes) (i : Nat) (h : 1244 ≤ i) : getByte b i = 0#8 := by
  unfold getByte
  rw [List.getElem?_eq_none (by rw [b.size]; exact h)]
  rfl

theorem getByte_reset (i : Nat) : getByte {} i = 0#8 := by
  change ((List.replicate 1244 0#8)[i]?).getD 0#8 = 0#8
  rw [List.getElem?_replicate]
  split <;> rfl

/-! ### perCpu and choose -/

theorem getElem_perCpu {α : Type} (f : Cpu → α) (c : Cpu) : (perCpu f)[c] = f c := by
  match c with
  | 0 | 1 | 2 | 3 | 4 | 5 | 6 | 7 => rfl

@[simp] theorem getElem_perCpu_val {α : Type} (f : Cpu → α) (c : Cpu) : (perCpu f)[c.val] = f c :=
  getElem_perCpu f c

theorem choose_nil {α : Type} (k : Nat) : choose k ([] : List α) = none := rfl

theorem choose_singleton {α : Type} (k : Nat) (x : α) : choose k [x] = some x := rfl

/-- `choose` answers an element of the list. -/
theorem choose_mem {α : Type} {k : Nat} {l : List α} {x : α} (h : choose k l = some x) : x ∈ l := by
  match l, h with
  | [y], h => simp only [choose, Option.some.injEq] at h; simp [h]
  | y :: z :: r, h => exact List.mem_of_getElem? h

/-- `choose` answers nothing only of the empty list. -/
theorem choose_eq_none {α : Type} {k : Nat} {l : List α} : choose k l = none ↔ l = [] := by
  match l with
  | [] => simp [choose]
  | [y] => simp [choose]
  | y :: z :: r =>
    have hl : k % (r.length + 2) < (y :: z :: r).length :=
      Nat.mod_lt k (Nat.succ_pos _)
    simp only [choose, List.getElem?_eq_none_iff, Nat.not_le_of_lt hl, reduceCtorEq]

/-! ### Slots -/

theorem slot_private (c : Cpu) {n : Nat} (h : n < 32) : slot c n = 32 * c.val + n := if_pos h

theorem slot_spi (c : Cpu) {n : Nat} (h : 32 ≤ n) : slot c n = n + 224 := if_neg (by omega)

theorem slot_lt (c : Cpu) {n : Nat} (h : n < 1020) : slot c n < 1244 := by
  unfold slot; split <;> omega

/-- Two interrupts share a slot exactly when they are one interrupt. -/
theorem slot_inj {c d : Cpu} {n m : Nat} :
    slot c n = slot d m ↔ n = m ∧ (n < 32 → c = d) := by
  unfold slot
  constructor
  · intro h
    split at h <;> split at h
    · refine ⟨by omega, fun _ => Fin.ext (by omega)⟩
    · omega
    · omega
    · exact ⟨by omega, fun _ => by omega⟩
  · rintro ⟨rfl, h⟩
    by_cases hn : n < 32
    · rw [h hn]
    · simp [hn]

theorem slotId_slot (c : Cpu) (n : Nat) : slotId (slot c n) = n := by
  unfold slotId slot
  split <;> split <;> omega

theorem slotCpu_slot (c : Cpu) (n : Nat) :
    slotCpu (slot c n) = if n < 32 then c else 0 := by
  unfold slotCpu slot
  by_cases h : n < 32
  · have h2 : 32 * c.val + n < 256 := by omega
    rw [if_pos h, if_pos h, if_pos h2]
    apply Fin.ext
    simp only [Fin.val_ofNat]
    omega
  · have h2 : ¬ n + 224 < 256 := by omega
    rw [if_neg h, if_neg h2, if_neg h]

theorem slot_slotId {k : Nat} : slot (slotCpu k) (slotId k) = k := by
  unfold slot slotCpu slotId
  by_cases h : k < 256
  · have h2 : k % 32 < 32 := Nat.mod_lt _ (by omega)
    simp only [if_pos h, if_pos h2, Fin.val_ofNat]
    omega
  · have h2 : ¬ k - 224 < 32 := by omega
    simp only [if_neg h, if_neg h2]
    omega

theorem sgipIndex_lt {c : Cpu} {n : Nat} {src : Cpu} (h : n < 16) : sgipIndex c n src < 1024 := by
  unfold sgipIndex; omega

/-- Two SGI instances share a pending bit exactly when they are one instance. -/
theorem sgipIndex_inj {c d : Cpu} {n m : Nat} {s t : Cpu} (hn : n < 16) (hm : m < 16) :
    sgipIndex c n s = sgipIndex d m t ↔ c = d ∧ n = m ∧ s = t := by
  unfold sgipIndex
  constructor
  · intro h
    exact ⟨Fin.ext (by omega), by omega, Fin.ext (by omega)⟩
  · rintro ⟨rfl, rfl, rfl⟩; rfl

/-! ### Parameters -/

theorem ncpu_pos (cfg : Config) : 0 < ncpu cfg := Nat.succ_pos _

theorem maxId_le (cfg : Config) : maxId cfg ≤ 1020 := Nat.min_le_right _ _

theorem implemented_lt {cfg : Config} {c : Cpu} {n : Nat} (h : implemented cfg c n = true) :
    n < 1020 := by
  have := maxId_le cfg
  simp only [implemented, Bool.and_eq_true, decide_eq_true_eq] at h
  omega

/-- For an SPI it does not matter which interface is asked (R9(c)). -/
theorem implemented_spi (cfg : Config) (c d : Cpu) {n : Nat} (h : 32 ≤ n) :
    implemented cfg c n = implemented cfg d n := by
  simp [implemented, slot_spi, h]

end Sys2Proof.Machine
end

