-- ==== Sys2Proof/Laws/State.lean ====
section
/-! SUPPORT. What each setter of the state leaves in each field: one lemma per field per update. -/

namespace Sys2Proof.Machine

/-! ### withIfc -/

@[simp] theorem State.withIfc_cfg (s : State) (c : Cpu) (i : CpuInterface) : (s.withIfc c i).cfg = s.cfg := rfl
@[simp] theorem State.withIfc_line (s : State) (c : Cpu) (i : CpuInterface) : (s.withIfc c i).line = s.line := rfl
@[simp] theorem State.withIfc_cfgsdisable (s : State) (c : Cpu) (i : CpuInterface) : (s.withIfc c i).cfgsdisable = s.cfgsdisable := rfl
@[simp] theorem State.withIfc_legacyIrq (s : State) (c : Cpu) (i : CpuInterface) : (s.withIfc c i).legacyIrq = s.legacyIrq := rfl
@[simp] theorem State.withIfc_legacyFiq (s : State) (c : Cpu) (i : CpuInterface) : (s.withIfc c i).legacyFiq = s.legacyFiq := rfl
@[simp] theorem State.withIfc_inputs (s : State) (c : Cpu) (i : CpuInterface) : (s.withIfc c i).inputs = s.inputs := rfl
@[simp] theorem State.withIfc_unpred (s : State) (c : Cpu) (i : CpuInterface) : (s.withIfc c i).unpred = s.unpred := rfl
@[simp] theorem State.withIfc_tick (s : State) (c : Cpu) (i : CpuInterface) : (s.withIfc c i).tick = s.tick := rfl
@[simp] theorem State.withIfc_gic_dcrS (s : State) (c : Cpu) (i : CpuInterface) : (s.withIfc c i).gic.dcrS = s.gic.dcrS := rfl
@[simp] theorem State.withIfc_gic_dcrNS (s : State) (c : Cpu) (i : CpuInterface) : (s.withIfc c i).gic.dcrNS = s.gic.dcrNS := rfl
@[simp] theorem State.withIfc_gic_nsb (s : State) (c : Cpu) (i : CpuInterface) : (s.withIfc c i).gic.nsb = s.gic.nsb := rfl
@[simp] theorem State.withIfc_gic_en (s : State) (c : Cpu) (i : CpuInterface) : (s.withIfc c i).gic.en = s.gic.en := rfl
@[simp] theorem State.withIfc_gic_icfg (s : State) (c : Cpu) (i : CpuInterface) : (s.withIfc c i).gic.icfg = s.gic.icfg := rfl
@[simp] theorem State.withIfc_gic_latch (s : State) (c : Cpu) (i : CpuInterface) : (s.withIfc c i).gic.latch = s.gic.latch := rfl
@[simp] theorem State.withIfc_gic_pri (s : State) (c : Cpu) (i : CpuInterface) : (s.withIfc c i).gic.pri = s.gic.pri := rfl
@[simp] theorem State.withIfc_gic_tgt (s : State) (c : Cpu) (i : CpuInterface) : (s.withIfc c i).gic.tgt = s.gic.tgt := rfl
@[simp] theorem State.withIfc_gic_sgip (s : State) (c : Cpu) (i : CpuInterface) : (s.withIfc c i).gic.sgip = s.gic.sgip := rfl
@[simp] theorem State.withIfc_gic_ifcs (s : State) (c : Cpu) (i : CpuInterface) : (s.withIfc c i).gic.ifcs = s.gic.ifcs.set c i := rfl
@[simp] theorem State.withIfc_gic_wq (s : State) (c : Cpu) (i : CpuInterface) : (s.withIfc c i).gic.wq = s.gic.wq := rfl
@[simp] theorem State.withIfc_gic_readData (s : State) (c : Cpu) (i : CpuInterface) : (s.withIfc c i).gic.readData = s.gic.readData := rfl

/-! ### setDcrS -/

@[simp] theorem State.setDcrS_cfg (s : State) (v : Bool) : (s.setDcrS v).cfg = s.cfg := rfl
@[simp] theorem State.setDcrS_line (s : State) (v : Bool) : (s.setDcrS v).line = s.line := rfl
@[simp] theorem State.setDcrS_cfgsdisable (s : State) (v : Bool) : (s.setDcrS v).cfgsdisable = s.cfgsdisable := rfl
@[simp] theorem State.setDcrS_legacyIrq (s : State) (v : Bool) : (s.setDcrS v).legacyIrq = s.legacyIrq := rfl
@[simp] theorem State.setDcrS_legacyFiq (s : State) (v : Bool) : (s.setDcrS v).legacyFiq = s.legacyFiq := rfl
@[simp] theorem State.setDcrS_inputs (s : State) (v : Bool) : (s.setDcrS v).inputs = s.inputs := rfl
@[simp] theorem State.setDcrS_unpred (s : State) (v : Bool) : (s.setDcrS v).unpred = s.unpred := rfl
@[simp] theorem State.setDcrS_tick (s : State) (v : Bool) : (s.setDcrS v).tick = s.tick := rfl
@[simp] theorem State.setDcrS_gic_dcrS (s : State) (v : Bool) : (s.setDcrS v).gic.dcrS = v := rfl
@[simp] theorem State.setDcrS_gic_dcrNS (s : State) (v : Bool) : (s.setDcrS v).gic.dcrNS = s.gic.dcrNS := rfl
@[simp] theorem State.setDcrS_gic_nsb (s : State) (v : Bool) : (s.setDcrS v).gic.nsb = s.gic.nsb := rfl
@[simp] theorem State.setDcrS_gic_en (s : State) (v : Bool) : (s.setDcrS v).gic.en = s.gic.en := rfl
@[simp] theorem State.setDcrS_gic_icfg (s : State) (v : Bool) : (s.setDcrS v).gic.icfg = s.gic.icfg := rfl
@[simp] theorem State.setDcrS_gic_latch (s : State) (v : Bool) : (s.setDcrS v).gic.latch = s.gic.latch := rfl
@[simp] theorem State.setDcrS_gic_pri (s : State) (v : Bool) : (s.setDcrS v).gic.pri = s.gic.pri := rfl
@[simp] theorem State.setDcrS_gic_tgt (s : State) (v : Bool) : (s.setDcrS v).gic.tgt = s.gic.tgt := rfl
@[simp] theorem State.setDcrS_gic_sgip (s : State) (v : Bool) : (s.setDcrS v).gic.sgip = s.gic.sgip := rfl
@[simp] theorem State.setDcrS_gic_ifcs (s : State) (v : Bool) : (s.setDcrS v).gic.ifcs = s.gic.ifcs := rfl
@[simp] theorem State.setDcrS_gic_wq (s : State) (v : Bool) : (s.setDcrS v).gic.wq = s.gic.wq := rfl
@[simp] theorem State.setDcrS_gic_readData (s : State) (v : Bool) : (s.setDcrS v).gic.readData = s.gic.readData := rfl
@[simp] theorem State.setDcrS_ifc (s : State) (v : Bool) (d : Cpu) : (s.setDcrS v).ifc d = s.ifc d := rfl

/-! ### setDcrNS -/

@[simp] theorem State.setDcrNS_cfg (s : State) (v : Bool) : (s.setDcrNS v).cfg = s.cfg := rfl
@[simp] theorem State.setDcrNS_line (s : State) (v : Bool) : (s.setDcrNS v).line = s.line := rfl
@[simp] theorem State.setDcrNS_cfgsdisable (s : State) (v : Bool) : (s.setDcrNS v).cfgsdisable = s.cfgsdisable := rfl
@[simp] theorem State.setDcrNS_legacyIrq (s : State) (v : Bool) : (s.setDcrNS v).legacyIrq = s.legacyIrq := rfl
@[simp] theorem State.setDcrNS_legacyFiq (s : State) (v : Bool) : (s.setDcrNS v).legacyFiq = s.legacyFiq := rfl
@[simp] theorem State.setDcrNS_inputs (s : State) (v : Bool) : (s.setDcrNS v).inputs = s.inputs := rfl
@[simp] theorem State.setDcrNS_unpred (s : State) (v : Bool) : (s.setDcrNS v).unpred = s.unpred := rfl
@[simp] theorem State.setDcrNS_tick (s : State) (v : Bool) : (s.setDcrNS v).tick = s.tick := rfl
@[simp] theorem State.setDcrNS_gic_dcrS (s : State) (v : Bool) : (s.setDcrNS v).gic.dcrS = s.gic.dcrS := rfl
@[simp] theorem State.setDcrNS_gic_dcrNS (s : State) (v : Bool) : (s.setDcrNS v).gic.dcrNS = v := rfl
@[simp] theorem State.setDcrNS_gic_nsb (s : State) (v : Bool) : (s.setDcrNS v).gic.nsb = s.gic.nsb := rfl
@[simp] theorem State.setDcrNS_gic_en (s : State) (v : Bool) : (s.setDcrNS v).gic.en = s.gic.en := rfl
@[simp] theorem State.setDcrNS_gic_icfg (s : State) (v : Bool) : (s.setDcrNS v).gic.icfg = s.gic.icfg := rfl
@[simp] theorem State.setDcrNS_gic_latch (s : State) (v : Bool) : (s.setDcrNS v).gic.latch = s.gic.latch := rfl
@[simp] theorem State.setDcrNS_gic_pri (s : State) (v : Bool) : (s.setDcrNS v).gic.pri = s.gic.pri := rfl
@[simp] theorem State.setDcrNS_gic_tgt (s : State) (v : Bool) : (s.setDcrNS v).gic.tgt = s.gic.tgt := rfl
@[simp] theorem State.setDcrNS_gic_sgip (s : State) (v : Bool) : (s.setDcrNS v).gic.sgip = s.gic.sgip := rfl
@[simp] theorem State.setDcrNS_gic_ifcs (s : State) (v : Bool) : (s.setDcrNS v).gic.ifcs = s.gic.ifcs := rfl
@[simp] theorem State.setDcrNS_gic_wq (s : State) (v : Bool) : (s.setDcrNS v).gic.wq = s.gic.wq := rfl
@[simp] theorem State.setDcrNS_gic_readData (s : State) (v : Bool) : (s.setDcrNS v).gic.readData = s.gic.readData := rfl
@[simp] theorem State.setDcrNS_ifc (s : State) (v : Bool) (d : Cpu) : (s.setDcrNS v).ifc d = s.ifc d := rfl

/-! ### setNsb -/

@[simp] theorem State.setNsb_cfg (s : State) (v : Bits) : (s.setNsb v).cfg = s.cfg := rfl
@[simp] theorem State.setNsb_line (s : State) (v : Bits) : (s.setNsb v).line = s.line := rfl
@[simp] theorem State.setNsb_cfgsdisable (s : State) (v : Bits) : (s.setNsb v).cfgsdisable = s.cfgsdisable := rfl
@[simp] theorem State.setNsb_legacyIrq (s : State) (v : Bits) : (s.setNsb v).legacyIrq = s.legacyIrq := rfl
@[simp] theorem State.setNsb_legacyFiq (s : State) (v : Bits) : (s.setNsb v).legacyFiq = s.legacyFiq := rfl
@[simp] theorem State.setNsb_inputs (s : State) (v : Bits) : (s.setNsb v).inputs = s.inputs := rfl
@[simp] theorem State.setNsb_unpred (s : State) (v : Bits) : (s.setNsb v).unpred = s.unpred := rfl
@[simp] theorem State.setNsb_tick (s : State) (v : Bits) : (s.setNsb v).tick = s.tick := rfl
@[simp] theorem State.setNsb_gic_dcrS (s : State) (v : Bits) : (s.setNsb v).gic.dcrS = s.gic.dcrS := rfl
@[simp] theorem State.setNsb_gic_dcrNS (s : State) (v : Bits) : (s.setNsb v).gic.dcrNS = s.gic.dcrNS := rfl
@[simp] theorem State.setNsb_gic_nsb (s : State) (v : Bits) : (s.setNsb v).gic.nsb = v := rfl
@[simp] theorem State.setNsb_gic_en (s : State) (v : Bits) : (s.setNsb v).gic.en = s.gic.en := rfl
@[simp] theorem State.setNsb_gic_icfg (s : State) (v : Bits) : (s.setNsb v).gic.icfg = s.gic.icfg := rfl
@[simp] theorem State.setNsb_gic_latch (s : State) (v : Bits) : (s.setNsb v).gic.latch = s.gic.latch := rfl
@[simp] theorem State.setNsb_gic_pri (s : State) (v : Bits) : (s.setNsb v).gic.pri = s.gic.pri := rfl
@[simp] theorem State.setNsb_gic_tgt (s : State) (v : Bits) : (s.setNsb v).gic.tgt = s.gic.tgt := rfl
@[simp] theorem State.setNsb_gic_sgip (s : State) (v : Bits) : (s.setNsb v).gic.sgip = s.gic.sgip := rfl
@[simp] theorem State.setNsb_gic_ifcs (s : State) (v : Bits) : (s.setNsb v).gic.ifcs = s.gic.ifcs := rfl
@[simp] theorem State.setNsb_gic_wq (s : State) (v : Bits) : (s.setNsb v).gic.wq = s.gic.wq := rfl
@[simp] theorem State.setNsb_gic_readData (s : State) (v : Bits) : (s.setNsb v).gic.readData = s.gic.readData := rfl
@[simp] theorem State.setNsb_ifc (s : State) (v : Bits) (d : Cpu) : (s.setNsb v).ifc d = s.ifc d := rfl

/-! ### setEn -/

@[simp] theorem State.setEn_cfg (s : State) (v : Bits) : (s.setEn v).cfg = s.cfg := rfl
@[simp] theorem State.setEn_line (s : State) (v : Bits) : (s.setEn v).line = s.line := rfl
@[simp] theorem State.setEn_cfgsdisable (s : State) (v : Bits) : (s.setEn v).cfgsdisable = s.cfgsdisable := rfl
@[simp] theorem State.setEn_legacyIrq (s : State) (v : Bits) : (s.setEn v).legacyIrq = s.legacyIrq := rfl
@[simp] theorem State.setEn_legacyFiq (s : State) (v : Bits) : (s.setEn v).legacyFiq = s.legacyFiq := rfl
@[simp] theorem State.setEn_inputs (s : State) (v : Bits) : (s.setEn v).inputs = s.inputs := rfl
@[simp] theorem State.setEn_unpred (s : State) (v : Bits) : (s.setEn v).unpred = s.unpred := rfl
@[simp] theorem State.setEn_tick (s : State) (v : Bits) : (s.setEn v).tick = s.tick := rfl
@[simp] theorem State.setEn_gic_dcrS (s : State) (v : Bits) : (s.setEn v).gic.dcrS = s.gic.dcrS := rfl
@[simp] theorem State.setEn_gic_dcrNS (s : State) (v : Bits) : (s.setEn v).gic.dcrNS = s.gic.dcrNS := rfl
@[simp] theorem State.setEn_gic_nsb (s : State) (v : Bits) : (s.setEn v).gic.nsb = s.gic.nsb := rfl
@[simp] theorem State.setEn_gic_en (s : State) (v : Bits) : (s.setEn v).gic.en = v := rfl
@[simp] theorem State.setEn_gic_icfg (s : State) (v : Bits) : (s.setEn v).gic.icfg = s.gic.icfg := rfl
@[simp] theorem State.setEn_gic_latch (s : State) (v : Bits) : (s.setEn v).gic.latch = s.gic.latch := rfl
@[simp] theorem State.setEn_gic_pri (s : State) (v : Bits) : (s.setEn v).gic.pri = s.gic.pri := rfl
@[simp] theorem State.setEn_gic_tgt (s : State) (v : Bits) : (s.setEn v).gic.tgt = s.gic.tgt := rfl
@[simp] theorem State.setEn_gic_sgip (s : State) (v : Bits) : (s.setEn v).gic.sgip = s.gic.sgip := rfl
@[simp] theorem State.setEn_gic_ifcs (s : State) (v : Bits) : (s.setEn v).gic.ifcs = s.gic.ifcs := rfl
@[simp] theorem State.setEn_gic_wq (s : State) (v : Bits) : (s.setEn v).gic.wq = s.gic.wq := rfl
@[simp] theorem State.setEn_gic_readData (s : State) (v : Bits) : (s.setEn v).gic.readData = s.gic.readData := rfl
@[simp] theorem State.setEn_ifc (s : State) (v : Bits) (d : Cpu) : (s.setEn v).ifc d = s.ifc d := rfl

/-! ### setIcfg -/

@[simp] theorem State.setIcfg_cfg (s : State) (v : Bits) : (s.setIcfg v).cfg = s.cfg := rfl
@[simp] theorem State.setIcfg_line (s : State) (v : Bits) : (s.setIcfg v).line = s.line := rfl
@[simp] theorem State.setIcfg_cfgsdisable (s : State) (v : Bits) : (s.setIcfg v).cfgsdisable = s.cfgsdisable := rfl
@[simp] theorem State.setIcfg_legacyIrq (s : State) (v : Bits) : (s.setIcfg v).legacyIrq = s.legacyIrq := rfl
@[simp] theorem State.setIcfg_legacyFiq (s : State) (v : Bits) : (s.setIcfg v).legacyFiq = s.legacyFiq := rfl
@[simp] theorem State.setIcfg_inputs (s : State) (v : Bits) : (s.setIcfg v).inputs = s.inputs := rfl
@[simp] theorem State.setIcfg_unpred (s : State) (v : Bits) : (s.setIcfg v).unpred = s.unpred := rfl
@[simp] theorem State.setIcfg_tick (s : State) (v : Bits) : (s.setIcfg v).tick = s.tick := rfl
@[simp] theorem State.setIcfg_gic_dcrS (s : State) (v : Bits) : (s.setIcfg v).gic.dcrS = s.gic.dcrS := rfl
@[simp] theorem State.setIcfg_gic_dcrNS (s : State) (v : Bits) : (s.setIcfg v).gic.dcrNS = s.gic.dcrNS := rfl
@[simp] theorem State.setIcfg_gic_nsb (s : State) (v : Bits) : (s.setIcfg v).gic.nsb = s.gic.nsb := rfl
@[simp] theorem State.setIcfg_gic_en (s : State) (v : Bits) : (s.setIcfg v).gic.en = s.gic.en := rfl
@[simp] theorem State.setIcfg_gic_icfg (s : State) (v : Bits) : (s.setIcfg v).gic.icfg = v := rfl
@[simp] theorem State.setIcfg_gic_latch (s : State) (v : Bits) : (s.setIcfg v).gic.latch = s.gic.latch := rfl
@[simp] theorem State.setIcfg_gic_pri (s : State) (v : Bits) : (s.setIcfg v).gic.pri = s.gic.pri := rfl
@[simp] theorem State.setIcfg_gic_tgt (s : State) (v : Bits) : (s.setIcfg v).gic.tgt = s.gic.tgt := rfl
@[simp] theorem State.setIcfg_gic_sgip (s : State) (v : Bits) : (s.setIcfg v).gic.sgip = s.gic.sgip := rfl
@[simp] theorem State.setIcfg_gic_ifcs (s : State) (v : Bits) : (s.setIcfg v).gic.ifcs = s.gic.ifcs := rfl
@[simp] theorem State.setIcfg_gic_wq (s : State) (v : Bits) : (s.setIcfg v).gic.wq = s.gic.wq := rfl
@[simp] theorem State.setIcfg_gic_readData (s : State) (v : Bits) : (s.setIcfg v).gic.readData = s.gic.readData := rfl
@[simp] theorem State.setIcfg_ifc (s : State) (v : Bits) (d : Cpu) : (s.setIcfg v).ifc d = s.ifc d := rfl

/-! ### setLatch -/

@[simp] theorem State.setLatch_cfg (s : State) (v : Bits) : (s.setLatch v).cfg = s.cfg := rfl
@[simp] theorem State.setLatch_line (s : State) (v : Bits) : (s.setLatch v).line = s.line := rfl
@[simp] theorem State.setLatch_cfgsdisable (s : State) (v : Bits) : (s.setLatch v).cfgsdisable = s.cfgsdisable := rfl
@[simp] theorem State.setLatch_legacyIrq (s : State) (v : Bits) : (s.setLatch v).legacyIrq = s.legacyIrq := rfl
@[simp] theorem State.setLatch_legacyFiq (s : State) (v : Bits) : (s.setLatch v).legacyFiq = s.legacyFiq := rfl
@[simp] theorem State.setLatch_inputs (s : State) (v : Bits) : (s.setLatch v).inputs = s.inputs := rfl
@[simp] theorem State.setLatch_unpred (s : State) (v : Bits) : (s.setLatch v).unpred = s.unpred := rfl
@[simp] theorem State.setLatch_tick (s : State) (v : Bits) : (s.setLatch v).tick = s.tick := rfl
@[simp] theorem State.setLatch_gic_dcrS (s : State) (v : Bits) : (s.setLatch v).gic.dcrS = s.gic.dcrS := rfl
@[simp] theorem State.setLatch_gic_dcrNS (s : State) (v : Bits) : (s.setLatch v).gic.dcrNS = s.gic.dcrNS := rfl
@[simp] theorem State.setLatch_gic_nsb (s : State) (v : Bits) : (s.setLatch v).gic.nsb = s.gic.nsb := rfl
@[simp] theorem State.setLatch_gic_en (s : State) (v : Bits) : (s.setLatch v).gic.en = s.gic.en := rfl
@[simp] theorem State.setLatch_gic_icfg (s : State) (v : Bits) : (s.setLatch v).gic.icfg = s.gic.icfg := rfl
@[simp] theorem State.setLatch_gic_latch (s : State) (v : Bits) : (s.setLatch v).gic.latch = v := rfl
@[simp] theorem State.setLatch_gic_pri (s : State) (v : Bits) : (s.setLatch v).gic.pri = s.gic.pri := rfl
@[simp] theorem State.setLatch_gic_tgt (s : State) (v : Bits) : (s.setLatch v).gic.tgt = s.gic.tgt := rfl
@[simp] theorem State.setLatch_gic_sgip (s : State) (v : Bits) : (s.setLatch v).gic.sgip = s.gic.sgip := rfl
@[simp] theorem State.setLatch_gic_ifcs (s : State) (v : Bits) : (s.setLatch v).gic.ifcs = s.gic.ifcs := rfl
@[simp] theorem State.setLatch_gic_wq (s : State) (v : Bits) : (s.setLatch v).gic.wq = s.gic.wq := rfl
@[simp] theorem State.setLatch_gic_readData (s : State) (v : Bits) : (s.setLatch v).gic.readData = s.gic.readData := rfl
@[simp] theorem State.setLatch_ifc (s : State) (v : Bits) (d : Cpu) : (s.setLatch v).ifc d = s.ifc d := rfl

/-! ### setPri -/

@[simp] theorem State.setPri_cfg (s : State) (v : Bytes) : (s.setPri v).cfg = s.cfg := rfl
@[simp] theorem State.setPri_line (s : State) (v : Bytes) : (s.setPri v).line = s.line := rfl
@[simp] theorem State.setPri_cfgsdisable (s : State) (v : Bytes) : (s.setPri v).cfgsdisable = s.cfgsdisable := rfl
@[simp] theorem State.setPri_legacyIrq (s : State) (v : Bytes) : (s.setPri v).legacyIrq = s.legacyIrq := rfl
@[simp] theorem State.setPri_legacyFiq (s : State) (v : Bytes) : (s.setPri v).legacyFiq = s.legacyFiq := rfl
@[simp] theorem State.setPri_inputs (s : State) (v : Bytes) : (s.setPri v).inputs = s.inputs := rfl
@[simp] theorem State.setPri_unpred (s : State) (v : Bytes) : (s.setPri v).unpred = s.unpred := rfl
@[simp] theorem State.setPri_tick (s : State) (v : Bytes) : (s.setPri v).tick = s.tick := rfl
@[simp] theorem State.setPri_gic_dcrS (s : State) (v : Bytes) : (s.setPri v).gic.dcrS = s.gic.dcrS := rfl
@[simp] theorem State.setPri_gic_dcrNS (s : State) (v : Bytes) : (s.setPri v).gic.dcrNS = s.gic.dcrNS := rfl
@[simp] theorem State.setPri_gic_nsb (s : State) (v : Bytes) : (s.setPri v).gic.nsb = s.gic.nsb := rfl
@[simp] theorem State.setPri_gic_en (s : State) (v : Bytes) : (s.setPri v).gic.en = s.gic.en := rfl
@[simp] theorem State.setPri_gic_icfg (s : State) (v : Bytes) : (s.setPri v).gic.icfg = s.gic.icfg := rfl
@[simp] theorem State.setPri_gic_latch (s : State) (v : Bytes) : (s.setPri v).gic.latch = s.gic.latch := rfl
@[simp] theorem State.setPri_gic_pri (s : State) (v : Bytes) : (s.setPri v).gic.pri = v := rfl
@[simp] theorem State.setPri_gic_tgt (s : State) (v : Bytes) : (s.setPri v).gic.tgt = s.gic.tgt := rfl
@[simp] theorem State.setPri_gic_sgip (s : State) (v : Bytes) : (s.setPri v).gic.sgip = s.gic.sgip := rfl
@[simp] theorem State.setPri_gic_ifcs (s : State) (v : Bytes) : (s.setPri v).gic.ifcs = s.gic.ifcs := rfl
@[simp] theorem State.setPri_gic_wq (s : State) (v : Bytes) : (s.setPri v).gic.wq = s.gic.wq := rfl
@[simp] theorem State.setPri_gic_readData (s : State) (v : Bytes) : (s.setPri v).gic.readData = s.gic.readData := rfl
@[simp] theorem State.setPri_ifc (s : State) (v : Bytes) (d : Cpu) : (s.setPri v).ifc d = s.ifc d := rfl

/-! ### setTgt -/

@[simp] theorem State.setTgt_cfg (s : State) (v : Bytes) : (s.setTgt v).cfg = s.cfg := rfl
@[simp] theorem State.setTgt_line (s : State) (v : Bytes) : (s.setTgt v).line = s.line := rfl
@[simp] theorem State.setTgt_cfgsdisable (s : State) (v : Bytes) : (s.setTgt v).cfgsdisable = s.cfgsdisable := rfl
@[simp] theorem State.setTgt_legacyIrq (s : State) (v : Bytes) : (s.setTgt v).legacyIrq = s.legacyIrq := rfl
@[simp] theorem State.setTgt_legacyFiq (s : State) (v : Bytes) : (s.setTgt v).legacyFiq = s.legacyFiq := rfl
@[simp] theorem State.setTgt_inputs (s : State) (v : Bytes) : (s.setTgt v).inputs = s.inputs := rfl
@[simp] theorem State.setTgt_unpred (s : State) (v : Bytes) : (s.setTgt v).unpred = s.unpred := rfl
@[simp] theorem State.setTgt_tick (s : State) (v : Bytes) : (s.setTgt v).tick = s.tick := rfl
@[simp] theorem State.setTgt_gic_dcrS (s : State) (v : Bytes) : (s.setTgt v).gic.dcrS = s.gic.dcrS := rfl
@[simp] theorem State.setTgt_gic_dcrNS (s : State) (v : Bytes) : (s.setTgt v).gic.dcrNS = s.gic.dcrNS := rfl
@[simp] theorem State.setTgt_gic_nsb (s : State) (v : Bytes) : (s.setTgt v).gic.nsb = s.gic.nsb := rfl
@[simp] theorem State.setTgt_gic_en (s : State) (v : Bytes) : (s.setTgt v).gic.en = s.gic.en := rfl
@[simp] theorem State.setTgt_gic_icfg (s : State) (v : Bytes) : (s.setTgt v).gic.icfg = s.gic.icfg := rfl
@[simp] theorem State.setTgt_gic_latch (s : State) (v : Bytes) : (s.setTgt v).gic.latch = s.gic.latch := rfl
@[simp] theorem State.setTgt_gic_pri (s : State) (v : Bytes) : (s.setTgt v).gic.pri = s.gic.pri := rfl
@[simp] theorem State.setTgt_gic_tgt (s : State) (v : Bytes) : (s.setTgt v).gic.tgt = v := rfl
@[simp] theorem State.setTgt_gic_sgip (s : State) (v : Bytes) : (s.setTgt v).gic.sgip = s.gic.sgip := rfl
@[simp] theorem State.setTgt_gic_ifcs (s : State) (v : Bytes) : (s.setTgt v).gic.ifcs = s.gic.ifcs := rfl
@[simp] theorem State.setTgt_gic_wq (s : State) (v : Bytes) : (s.setTgt v).gic.wq = s.gic.wq := rfl
@[simp] theorem State.setTgt_gic_readData (s : State) (v : Bytes) : (s.setTgt v).gic.readData = s.gic.readData := rfl
@[simp] theorem State.setTgt_ifc (s : State) (v : Bytes) (d : Cpu) : (s.setTgt v).ifc d = s.ifc d := rfl

/-! ### setSgip -/

@[simp] theorem State.setSgip_cfg (s : State) (v : BitVec 1024) : (s.setSgip v).cfg = s.cfg := rfl
@[simp] theorem State.setSgip_line (s : State) (v : BitVec 1024) : (s.setSgip v).line = s.line := rfl
@[simp] theorem State.setSgip_cfgsdisable (s : State) (v : BitVec 1024) : (s.setSgip v).cfgsdisable = s.cfgsdisable := rfl
@[simp] theorem State.setSgip_legacyIrq (s : State) (v : BitVec 1024) : (s.setSgip v).legacyIrq = s.legacyIrq := rfl
@[simp] theorem State.setSgip_legacyFiq (s : State) (v : BitVec 1024) : (s.setSgip v).legacyFiq = s.legacyFiq := rfl
@[simp] theorem State.setSgip_inputs (s : State) (v : BitVec 1024) : (s.setSgip v).inputs = s.inputs := rfl
@[simp] theorem State.setSgip_unpred (s : State) (v : BitVec 1024) : (s.setSgip v).unpred = s.unpred := rfl
@[simp] theorem State.setSgip_tick (s : State) (v : BitVec 1024) : (s.setSgip v).tick = s.tick := rfl
@[simp] theorem State.setSgip_gic_dcrS (s : State) (v : BitVec 1024) : (s.setSgip v).gic.dcrS = s.gic.dcrS := rfl
@[simp] theorem State.setSgip_gic_dcrNS (s : State) (v : BitVec 1024) : (s.setSgip v).gic.dcrNS = s.gic.dcrNS := rfl
@[simp] theorem State.setSgip_gic_nsb (s : State) (v : BitVec 1024) : (s.setSgip v).gic.nsb = s.gic.nsb := rfl
@[simp] theorem State.setSgip_gic_en (s : State) (v : BitVec 1024) : (s.setSgip v).gic.en = s.gic.en := rfl
@[simp] theorem State.setSgip_gic_icfg (s : State) (v : BitVec 1024) : (s.setSgip v).gic.icfg = s.gic.icfg := rfl
@[simp] theorem State.setSgip_gic_latch (s : State) (v : BitVec 1024) : (s.setSgip v).gic.latch = s.gic.latch := rfl
@[simp] theorem State.setSgip_gic_pri (s : State) (v : BitVec 1024) : (s.setSgip v).gic.pri = s.gic.pri := rfl
@[simp] theorem State.setSgip_gic_tgt (s : State) (v : BitVec 1024) : (s.setSgip v).gic.tgt = s.gic.tgt := rfl
@[simp] theorem State.setSgip_gic_sgip (s : State) (v : BitVec 1024) : (s.setSgip v).gic.sgip = v := rfl
@[simp] theorem State.setSgip_gic_ifcs (s : State) (v : BitVec 1024) : (s.setSgip v).gic.ifcs = s.gic.ifcs := rfl
@[simp] theorem State.setSgip_gic_wq (s : State) (v : BitVec 1024) : (s.setSgip v).gic.wq = s.gic.wq := rfl
@[simp] theorem State.setSgip_gic_readData (s : State) (v : BitVec 1024) : (s.setSgip v).gic.readData = s.gic.readData := rfl
@[simp] theorem State.setSgip_ifc (s : State) (v : BitVec 1024) (d : Cpu) : (s.setSgip v).ifc d = s.ifc d := rfl

/-! ### setIfcs -/

@[simp] theorem State.setIfcs_cfg (s : State) (v : Vector CpuInterface 8) : (s.setIfcs v).cfg = s.cfg := rfl
@[simp] theorem State.setIfcs_line (s : State) (v : Vector CpuInterface 8) : (s.setIfcs v).line = s.line := rfl
@[simp] theorem State.setIfcs_cfgsdisable (s : State) (v : Vector CpuInterface 8) : (s.setIfcs v).cfgsdisable = s.cfgsdisable := rfl
@[simp] theorem State.setIfcs_legacyIrq (s : State) (v : Vector CpuInterface 8) : (s.setIfcs v).legacyIrq = s.legacyIrq := rfl
@[simp] theorem State.setIfcs_legacyFiq (s : State) (v : Vector CpuInterface 8) : (s.setIfcs v).legacyFiq = s.legacyFiq := rfl
@[simp] theorem State.setIfcs_inputs (s : State) (v : Vector CpuInterface 8) : (s.setIfcs v).inputs = s.inputs := rfl
@[simp] theorem State.setIfcs_unpred (s : State) (v : Vector CpuInterface 8) : (s.setIfcs v).unpred = s.unpred := rfl
@[simp] theorem State.setIfcs_tick (s : State) (v : Vector CpuInterface 8) : (s.setIfcs v).tick = s.tick := rfl
@[simp] theorem State.setIfcs_gic_dcrS (s : State) (v : Vector CpuInterface 8) : (s.setIfcs v).gic.dcrS = s.gic.dcrS := rfl
@[simp] theorem State.setIfcs_gic_dcrNS (s : State) (v : Vector CpuInterface 8) : (s.setIfcs v).gic.dcrNS = s.gic.dcrNS := rfl
@[simp] theorem State.setIfcs_gic_nsb (s : State) (v : Vector CpuInterface 8) : (s.setIfcs v).gic.nsb = s.gic.nsb := rfl
@[simp] theorem State.setIfcs_gic_en (s : State) (v : Vector CpuInterface 8) : (s.setIfcs v).gic.en = s.gic.en := rfl
@[simp] theorem State.setIfcs_gic_icfg (s : State) (v : Vector CpuInterface 8) : (s.setIfcs v).gic.icfg = s.gic.icfg := rfl
@[simp] theorem State.setIfcs_gic_latch (s : State) (v : Vector CpuInterface 8) : (s.setIfcs v).gic.latch = s.gic.latch := rfl
@[simp] theorem State.setIfcs_gic_pri (s : State) (v : Vector CpuInterface 8) : (s.setIfcs v).gic.pri = s.gic.pri := rfl
@[simp] theorem State.setIfcs_gic_tgt (s : State) (v : Vector CpuInterface 8) : (s.setIfcs v).gic.tgt = s.gic.tgt := rfl
@[simp] theorem State.setIfcs_gic_sgip (s : State) (v : Vector CpuInterface 8) : (s.setIfcs v).gic.sgip = s.gic.sgip := rfl
@[simp] theorem State.setIfcs_gic_ifcs (s : State) (v : Vector CpuInterface 8) : (s.setIfcs v).gic.ifcs = v := rfl
@[simp] theorem State.setIfcs_gic_wq (s : State) (v : Vector CpuInterface 8) : (s.setIfcs v).gic.wq = s.gic.wq := rfl
@[simp] theorem State.setIfcs_gic_readData (s : State) (v : Vector CpuInterface 8) : (s.setIfcs v).gic.readData = s.gic.readData := rfl

/-! ### setWq -/

@[simp] theorem State.setWq_cfg (s : State) (v : List Instr) : (s.setWq v).cfg = s.cfg := rfl
@[simp] theorem State.setWq_line (s : State) (v : List Instr) : (s.setWq v).line = s.line := rfl
@[simp] theorem State.setWq_cfgsdisable (s : State) (v : List Instr) : (s.setWq v).cfgsdisable = s.cfgsdisable := rfl
@[simp] theorem State.setWq_legacyIrq (s : State) (v : List Instr) : (s.setWq v).legacyIrq = s.legacyIrq := rfl
@[simp] theorem State.setWq_legacyFiq (s : State) (v : List Instr) : (s.setWq v).legacyFiq = s.legacyFiq := rfl
@[simp] theorem State.setWq_inputs (s : State) (v : List Instr) : (s.setWq v).inputs = s.inputs := rfl
@[simp] theorem State.setWq_unpred (s : State) (v : List Instr) : (s.setWq v).unpred = s.unpred := rfl
@[simp] theorem State.setWq_tick (s : State) (v : List Instr) : (s.setWq v).tick = s.tick := rfl
@[simp] theorem State.setWq_gic_dcrS (s : State) (v : List Instr) : (s.setWq v).gic.dcrS = s.gic.dcrS := rfl
@[simp] theorem State.setWq_gic_dcrNS (s : State) (v : List Instr) : (s.setWq v).gic.dcrNS = s.gic.dcrNS := rfl
@[simp] theorem State.setWq_gic_nsb (s : State) (v : List Instr) : (s.setWq v).gic.nsb = s.gic.nsb := rfl
@[simp] theorem State.setWq_gic_en (s : State) (v : List Instr) : (s.setWq v).gic.en = s.gic.en := rfl
@[simp] theorem State.setWq_gic_icfg (s : State) (v : List Instr) : (s.setWq v).gic.icfg = s.gic.icfg := rfl
@[simp] theorem State.setWq_gic_latch (s : State) (v : List Instr) : (s.setWq v).gic.latch = s.gic.latch := rfl
@[simp] theorem State.setWq_gic_pri (s : State) (v : List Instr) : (s.setWq v).gic.pri = s.gic.pri := rfl
@[simp] theorem State.setWq_gic_tgt (s : State) (v : List Instr) : (s.setWq v).gic.tgt = s.gic.tgt := rfl
@[simp] theorem State.setWq_gic_sgip (s : State) (v : List Instr) : (s.setWq v).gic.sgip = s.gic.sgip := rfl
@[simp] theorem State.setWq_gic_ifcs (s : State) (v : List Instr) : (s.setWq v).gic.ifcs = s.gic.ifcs := rfl
@[simp] theorem State.setWq_gic_wq (s : State) (v : List Instr) : (s.setWq v).gic.wq = v := rfl
@[simp] theorem State.setWq_gic_readData (s : State) (v : List Instr) : (s.setWq v).gic.readData = s.gic.readData := rfl
@[simp] theorem State.setWq_ifc (s : State) (v : List Instr) (d : Cpu) : (s.setWq v).ifc d = s.ifc d := rfl

/-! ### respond -/

@[simp] theorem State.respond_cfg (s : State) (v : Word) : (s.respond v).cfg = s.cfg := rfl
@[simp] theorem State.respond_line (s : State) (v : Word) : (s.respond v).line = s.line := rfl
@[simp] theorem State.respond_cfgsdisable (s : State) (v : Word) : (s.respond v).cfgsdisable = s.cfgsdisable := rfl
@[simp] theorem State.respond_legacyIrq (s : State) (v : Word) : (s.respond v).legacyIrq = s.legacyIrq := rfl
@[simp] theorem State.respond_legacyFiq (s : State) (v : Word) : (s.respond v).legacyFiq = s.legacyFiq := rfl
@[simp] theorem State.respond_inputs (s : State) (v : Word) : (s.respond v).inputs = s.inputs := rfl
@[simp] theorem State.respond_unpred (s : State) (v : Word) : (s.respond v).unpred = s.unpred := rfl
@[simp] theorem State.respond_tick (s : State) (v : Word) : (s.respond v).tick = s.tick := rfl
@[simp] theorem State.respond_gic_dcrS (s : State) (v : Word) : (s.respond v).gic.dcrS = s.gic.dcrS := rfl
@[simp] theorem State.respond_gic_dcrNS (s : State) (v : Word) : (s.respond v).gic.dcrNS = s.gic.dcrNS := rfl
@[simp] theorem State.respond_gic_nsb (s : State) (v : Word) : (s.respond v).gic.nsb = s.gic.nsb := rfl
@[simp] theorem State.respond_gic_en (s : State) (v : Word) : (s.respond v).gic.en = s.gic.en := rfl
@[simp] theorem State.respond_gic_icfg (s : State) (v : Word) : (s.respond v).gic.icfg = s.gic.icfg := rfl
@[simp] theorem State.respond_gic_latch (s : State) (v : Word) : (s.respond v).gic.latch = s.gic.latch := rfl
@[simp] theorem State.respond_gic_pri (s : State) (v : Word) : (s.respond v).gic.pri = s.gic.pri := rfl
@[simp] theorem State.respond_gic_tgt (s : State) (v : Word) : (s.respond v).gic.tgt = s.gic.tgt := rfl
@[simp] theorem State.respond_gic_sgip (s : State) (v : Word) : (s.respond v).gic.sgip = s.gic.sgip := rfl
@[simp] theorem State.respond_gic_ifcs (s : State) (v : Word) : (s.respond v).gic.ifcs = s.gic.ifcs := rfl
@[simp] theorem State.respond_gic_wq (s : State) (v : Word) : (s.respond v).gic.wq = s.gic.wq := rfl
@[simp] theorem State.respond_gic_readData (s : State) (v : Word) : (s.respond v).gic.readData = v := rfl
@[simp] theorem State.respond_ifc (s : State) (v : Word) (d : Cpu) : (s.respond v).ifc d = s.ifc d := rfl

/-! ### setLine -/

@[simp] theorem State.setLine_cfg (s : State) (v : Bits) : (s.setLine v).cfg = s.cfg := rfl
@[simp] theorem State.setLine_line (s : State) (v : Bits) : (s.setLine v).line = v := rfl
@[simp] theorem State.setLine_cfgsdisable (s : State) (v : Bits) : (s.setLine v).cfgsdisable = s.cfgsdisable := rfl
@[simp] theorem State.setLine_legacyIrq (s : State) (v : Bits) : (s.setLine v).legacyIrq = s.legacyIrq := rfl
@[simp] theorem State.setLine_legacyFiq (s : State) (v : Bits) : (s.setLine v).legacyFiq = s.legacyFiq := rfl
@[simp] theorem State.setLine_inputs (s : State) (v : Bits) : (s.setLine v).inputs = s.inputs := rfl
@[simp] theorem State.setLine_unpred (s : State) (v : Bits) : (s.setLine v).unpred = s.unpred := rfl
@[simp] theorem State.setLine_tick (s : State) (v : Bits) : (s.setLine v).tick = s.tick := rfl
@[simp] theorem State.setLine_gic (s : State) (v : Bits) : (s.setLine v).gic = s.gic := rfl
@[simp] theorem State.setLine_ifc (s : State) (v : Bits) (d : Cpu) : (s.setLine v).ifc d = s.ifc d := rfl

/-! ### drawn -/

@[simp] theorem State.drawn_cfg (s : State) : (s.drawn).cfg = s.cfg := rfl
@[simp] theorem State.drawn_line (s : State) : (s.drawn).line = s.line := rfl
@[simp] theorem State.drawn_cfgsdisable (s : State) : (s.drawn).cfgsdisable = s.cfgsdisable := rfl
@[simp] theorem State.drawn_legacyIrq (s : State) : (s.drawn).legacyIrq = s.legacyIrq := rfl
@[simp] theorem State.drawn_legacyFiq (s : State) : (s.drawn).legacyFiq = s.legacyFiq := rfl
@[simp] theorem State.drawn_inputs (s : State) : (s.drawn).inputs = s.inputs := rfl
@[simp] theorem State.drawn_unpred (s : State) : (s.drawn).unpred = s.unpred := rfl
@[simp] theorem State.drawn_tick (s : State) : (s.drawn).tick = s.tick + 1 := rfl
@[simp] theorem State.drawn_gic (s : State) : (s.drawn).gic = s.gic := rfl
@[simp] theorem State.drawn_ifc (s : State) (d : Cpu) : (s.drawn).ifc d = s.ifc d := rfl

/-! ### withGic -/

@[simp] theorem State.withGic_cfg (s : State) (g : Gic) : (s.withGic g).cfg = s.cfg := rfl
@[simp] theorem State.withGic_line (s : State) (g : Gic) : (s.withGic g).line = s.line := rfl
@[simp] theorem State.withGic_cfgsdisable (s : State) (g : Gic) : (s.withGic g).cfgsdisable = s.cfgsdisable := rfl
@[simp] theorem State.withGic_legacyIrq (s : State) (g : Gic) : (s.withGic g).legacyIrq = s.legacyIrq := rfl
@[simp] theorem State.withGic_legacyFiq (s : State) (g : Gic) : (s.withGic g).legacyFiq = s.legacyFiq := rfl
@[simp] theorem State.withGic_inputs (s : State) (g : Gic) : (s.withGic g).inputs = s.inputs := rfl
@[simp] theorem State.withGic_unpred (s : State) (g : Gic) : (s.withGic g).unpred = s.unpred := rfl
@[simp] theorem State.withGic_tick (s : State) (g : Gic) : (s.withGic g).tick = s.tick := rfl
@[simp] theorem State.withGic_gic (s : State) (g : Gic) : (s.withGic g).gic = g := rfl

/-! ### The interfaces -/

@[simp] theorem State.withIfc_ifc_self (s : State) (c : Cpu) (i : CpuInterface) :
    (s.withIfc c i).ifc c = i := by
  simp [State.withIfc, State.ifc]

theorem State.withIfc_ifc_ne (s : State) {c d : Cpu} (i : CpuInterface) (h : d ≠ c) :
    (s.withIfc c i).ifc d = s.ifc d := by
  simp only [State.withIfc, State.ifc, Fin.getElem_fin]
  exact Vector.getElem_set_ne _ _ fun e => h (Fin.ext e.symm)

/-- An interface of the state with interface c replaced. -/
theorem State.withIfc_ifc (s : State) (c d : Cpu) (i : CpuInterface) :
    (s.withIfc c i).ifc d = if d = c then i else s.ifc d := by
  by_cases h : d = c
  · subst h; simp
  · rw [if_neg h, State.withIfc_ifc_ne s i h]

@[simp] theorem State.setIfcs_ifc (s : State) (v : Vector CpuInterface 8) (c : Cpu) :
    (s.setIfcs v).ifc c = v[c] := rfl

/-! ### Per-interrupt variables -/

@[simp] theorem nsbOf_withIfc (s : State) (c : Cpu) (i : CpuInterface) (d : Cpu) (n : Nat) :
    nsbOf (s.withIfc c i) d n = nsbOf s d n := rfl
@[simp] theorem enOf_withIfc (s : State) (c : Cpu) (i : CpuInterface) (d : Cpu) (n : Nat) :
    enOf (s.withIfc c i) d n = enOf s d n := rfl
@[simp] theorem priOf_withIfc (s : State) (c : Cpu) (i : CpuInterface) (d : Cpu) (n : Nat) :
    priOf (s.withIfc c i) d n = priOf s d n := rfl
@[simp] theorem tgtOf_withIfc (s : State) (c : Cpu) (i : CpuInterface) (n : Nat) :
    tgtOf (s.withIfc c i) n = tgtOf s n := rfl
@[simp] theorem edgeOf_withIfc (s : State) (c : Cpu) (i : CpuInterface) (d : Cpu) (n : Nat) :
    edgeOf (s.withIfc c i) d n = edgeOf s d n := rfl
@[simp] theorem latchOf_withIfc (s : State) (c : Cpu) (i : CpuInterface) (d : Cpu) (n : Nat) :
    latchOf (s.withIfc c i) d n = latchOf s d n := rfl
@[simp] theorem lineOf_withIfc (s : State) (c : Cpu) (i : CpuInterface) (d : Cpu) (n : Nat) :
    lineOf (s.withIfc c i) d n = lineOf s d n := rfl
@[simp] theorem sgipOf_withIfc (s : State) (c : Cpu) (i : CpuInterface) (d : Cpu) (n : Nat) (src : Cpu) :
    sgipOf (s.withIfc c i) d n src = sgipOf s d n src := rfl

@[simp] theorem nsbOf_setDcrS (s : State) (v : Bool) (d : Cpu) (n : Nat) :
    nsbOf (s.setDcrS v) d n = nsbOf s d n := rfl
@[simp] theorem enOf_setDcrS (s : State) (v : Bool) (d : Cpu) (n : Nat) :
    enOf (s.setDcrS v) d n = enOf s d n := rfl
@[simp] theorem priOf_setDcrS (s : State) (v : Bool) (d : Cpu) (n : Nat) :
    priOf (s.setDcrS v) d n = priOf s d n := rfl
@[simp] theorem tgtOf_setDcrS (s : State) (v : Bool) (n : Nat) :
    tgtOf (s.setDcrS v) n = tgtOf s n := rfl
@[simp] theorem edgeOf_setDcrS (s : State) (v : Bool) (d : Cpu) (n : Nat) :
    edgeOf (s.setDcrS v) d n = edgeOf s d n := rfl
@[simp] theorem latchOf_setDcrS (s : State) (v : Bool) (d : Cpu) (n : Nat) :
    latchOf (s.setDcrS v) d n = latchOf s d n := rfl
@[simp] theorem lineOf_setDcrS (s : State) (v : Bool) (d : Cpu) (n : Nat) :
    lineOf (s.setDcrS v) d n = lineOf s d n := rfl
@[simp] theorem sgipOf_setDcrS (s : State) (v : Bool) (d : Cpu) (n : Nat) (src : Cpu) :
    sgipOf (s.setDcrS v) d n src = sgipOf s d n src := rfl

@[simp] theorem nsbOf_setDcrNS (s : State) (v : Bool) (d : Cpu) (n : Nat) :
    nsbOf (s.setDcrNS v) d n = nsbOf s d n := rfl
@[simp] theorem enOf_setDcrNS (s : State) (v : Bool) (d : Cpu) (n : Nat) :
    enOf (s.setDcrNS v) d n = enOf s d n := rfl
@[simp] theorem priOf_setDcrNS (s : State) (v : Bool) (d : Cpu) (n : Nat) :
    priOf (s.setDcrNS v) d n = priOf s d n := rfl
@[simp] theorem tgtOf_setDcrNS (s : State) (v : Bool) (n : Nat) :
    tgtOf (s.setDcrNS v) n = tgtOf s n := rfl
@[simp] theorem edgeOf_setDcrNS (s : State) (v : Bool) (d : Cpu) (n : Nat) :
    edgeOf (s.setDcrNS v) d n = edgeOf s d n := rfl
@[simp] theorem latchOf_setDcrNS (s : State) (v : Bool) (d : Cpu) (n : Nat) :
    latchOf (s.setDcrNS v) d n = latchOf s d n := rfl
@[simp] theorem lineOf_setDcrNS (s : State) (v : Bool) (d : Cpu) (n : Nat) :
    lineOf (s.setDcrNS v) d n = lineOf s d n := rfl
@[simp] theorem sgipOf_setDcrNS (s : State) (v : Bool) (d : Cpu) (n : Nat) (src : Cpu) :
    sgipOf (s.setDcrNS v) d n src = sgipOf s d n src := rfl

@[simp] theorem enOf_setNsb (s : State) (v : Bits) (d : Cpu) (n : Nat) :
    enOf (s.setNsb v) d n = enOf s d n := rfl
@[simp] theorem priOf_setNsb (s : State) (v : Bits) (d : Cpu) (n : Nat) :
    priOf (s.setNsb v) d n = priOf s d n := rfl
@[simp] theorem tgtOf_setNsb (s : State) (v : Bits) (n : Nat) :
    tgtOf (s.setNsb v) n = tgtOf s n := rfl
@[simp] theorem edgeOf_setNsb (s : State) (v : Bits) (d : Cpu) (n : Nat) :
    edgeOf (s.setNsb v) d n = edgeOf s d n := rfl
@[simp] theorem latchOf_setNsb (s : State) (v : Bits) (d : Cpu) (n : Nat) :
    latchOf (s.setNsb v) d n = latchOf s d n := rfl
@[simp] theorem lineOf_setNsb (s : State) (v : Bits) (d : Cpu) (n : Nat) :
    lineOf (s.setNsb v) d n = lineOf s d n := rfl
@[simp] theorem sgipOf_setNsb (s : State) (v : Bits) (d : Cpu) (n : Nat) (src : Cpu) :
    sgipOf (s.setNsb v) d n src = sgipOf s d n src := rfl

@[simp] theorem nsbOf_setEn (s : State) (v : Bits) (d : Cpu) (n : Nat) :
    nsbOf (s.setEn v) d n = nsbOf s d n := rfl
@[simp] theorem priOf_setEn (s : State) (v : Bits) (d : Cpu) (n : Nat) :
    priOf (s.setEn v) d n = priOf s d n := rfl
@[simp] theorem tgtOf_setEn (s : State) (v : Bits) (n : Nat) :
    tgtOf (s.setEn v) n = tgtOf s n := rfl
@[simp] theorem edgeOf_setEn (s : State) (v : Bits) (d : Cpu) (n : Nat) :
    edgeOf (s.setEn v) d n = edgeOf s d n := rfl
@[simp] theorem latchOf_setEn (s : State) (v : Bits) (d : Cpu) (n : Nat) :
    latchOf (s.setEn v) d n = latchOf s d n := rfl
@[simp] theorem lineOf_setEn (s : State) (v : Bits) (d : Cpu) (n : Nat) :
    lineOf (s.setEn v) d n = lineOf s d n := rfl
@[simp] theorem sgipOf_setEn (s : State) (v : Bits) (d : Cpu) (n : Nat) (src : Cpu) :
    sgipOf (s.setEn v) d n src = sgipOf s d n src := rfl

@[simp] theorem nsbOf_setIcfg (s : State) (v : Bits) (d : Cpu) (n : Nat) :
    nsbOf (s.setIcfg v) d n = nsbOf s d n := rfl
@[simp] theorem enOf_setIcfg (s : State) (v : Bits) (d : Cpu) (n : Nat) :
    enOf (s.setIcfg v) d n = enOf s d n := rfl
@[simp] theorem priOf_setIcfg (s : State) (v : Bits) (d : Cpu) (n : Nat) :
    priOf (s.setIcfg v) d n = priOf s d n := rfl
@[simp] theorem tgtOf_setIcfg (s : State) (v : Bits) (n : Nat) :
    tgtOf (s.setIcfg v) n = tgtOf s n := rfl
@[simp] theorem latchOf_setIcfg (s : State) (v : Bits) (d : Cpu) (n : Nat) :
    latchOf (s.setIcfg v) d n = latchOf s d n := rfl
@[simp] theorem lineOf_setIcfg (s : State) (v : Bits) (d : Cpu) (n : Nat) :
    lineOf (s.setIcfg v) d n = lineOf s d n := rfl
@[simp] theorem sgipOf_setIcfg (s : State) (v : Bits) (d : Cpu) (n : Nat) (src : Cpu) :
    sgipOf (s.setIcfg v) d n src = sgipOf s d n src := rfl

@[simp] theorem nsbOf_setLatch (s : State) (v : Bits) (d : Cpu) (n : Nat) :
    nsbOf (s.setLatch v) d n = nsbOf s d n := rfl
@[simp] theorem enOf_setLatch (s : State) (v : Bits) (d : Cpu) (n : Nat) :
    enOf (s.setLatch v) d n = enOf s d n := rfl
@[simp] theorem priOf_setLatch (s : State) (v : Bits) (d : Cpu) (n : Nat) :
    priOf (s.setLatch v) d n = priOf s d n := rfl
@[simp] theorem tgtOf_setLatch (s : State) (v : Bits) (n : Nat) :
    tgtOf (s.setLatch v) n = tgtOf s n := rfl
@[simp] theorem edgeOf_setLatch (s : State) (v : Bits) (d : Cpu) (n : Nat) :
    edgeOf (s.setLatch v) d n = edgeOf s d n := rfl
@[simp] theorem lineOf_setLatch (s : State) (v : Bits) (d : Cpu) (n : Nat) :
    lineOf (s.setLatch v) d n = lineOf s d n := rfl
@[simp] theorem sgipOf_setLatch (s : State) (v : Bits) (d : Cpu) (n : Nat) (src : Cpu) :
    sgipOf (s.setLatch v) d n src = sgipOf s d n src := rfl

@[simp] theorem nsbOf_setPri (s : State) (v : Bytes) (d : Cpu) (n : Nat) :
    nsbOf (s.setPri v) d n = nsbOf s d n := rfl
@[simp] theorem enOf_setPri (s : State) (v : Bytes) (d : Cpu) (n : Nat) :
    enOf (s.setPri v) d n = enOf s d n := rfl
@[simp] theorem tgtOf_setPri (s : State) (v : Bytes) (n : Nat) :
    tgtOf (s.setPri v) n = tgtOf s n := rfl
@[simp] theorem edgeOf_setPri (s : State) (v : Bytes) (d : Cpu) (n : Nat) :
    edgeOf (s.setPri v) d n = edgeOf s d n := rfl
@[simp] theorem latchOf_setPri (s : State) (v : Bytes) (d : Cpu) (n : Nat) :
    latchOf (s.setPri v) d n = latchOf s d n := rfl
@[simp] theorem lineOf_setPri (s : State) (v : Bytes) (d : Cpu) (n : Nat) :
    lineOf (s.setPri v) d n = lineOf s d n := rfl
@[simp] theorem sgipOf_setPri (s : State) (v : Bytes) (d : Cpu) (n : Nat) (src : Cpu) :
    sgipOf (s.setPri v) d n src = sgipOf s d n src := rfl

@[simp] theorem nsbOf_setTgt (s : State) (v : Bytes) (d : Cpu) (n : Nat) :
    nsbOf (s.setTgt v) d n = nsbOf s d n := rfl
@[simp] theorem enOf_setTgt (s : State) (v : Bytes) (d : Cpu) (n : Nat) :
    enOf (s.setTgt v) d n = enOf s d n := rfl
@[simp] theorem priOf_setTgt (s : State) (v : Bytes) (d : Cpu) (n : Nat) :
    priOf (s.setTgt v) d n = priOf s d n := rfl
@[simp] theorem edgeOf_setTgt (s : State) (v : Bytes) (d : Cpu) (n : Nat) :
    edgeOf (s.setTgt v) d n = edgeOf s d n := rfl
@[simp] theorem latchOf_setTgt (s : State) (v : Bytes) (d : Cpu) (n : Nat) :
    latchOf (s.setTgt v) d n = latchOf s d n := rfl
@[simp] theorem lineOf_setTgt (s : State) (v : Bytes) (d : Cpu) (n : Nat) :
    lineOf (s.setTgt v) d n = lineOf s d n := rfl
@[simp] theorem sgipOf_setTgt (s : State) (v : Bytes) (d : Cpu) (n : Nat) (src : Cpu) :
    sgipOf (s.setTgt v) d n src = sgipOf s d n src := rfl

@[simp] theorem nsbOf_setSgip (s : State) (v : BitVec 1024) (d : Cpu) (n : Nat) :
    nsbOf (s.setSgip v) d n = nsbOf s d n := rfl
@[simp] theorem enOf_setSgip (s : State) (v : BitVec 1024) (d : Cpu) (n : Nat) :
    enOf (s.setSgip v) d n = enOf s d n := rfl
@[simp] theorem priOf_setSgip (s : State) (v : BitVec 1024) (d : Cpu) (n : Nat) :
    priOf (s.setSgip v) d n = priOf s d n := rfl
@[simp] theorem tgtOf_setSgip (s : State) (v : BitVec 1024) (n : Nat) :
    tgtOf (s.setSgip v) n = tgtOf s n := rfl
@[simp] theorem edgeOf_setSgip (s : State) (v : BitVec 1024) (d : Cpu) (n : Nat) :
    edgeOf (s.setSgip v) d n = edgeOf s d n := rfl
@[simp] theorem latchOf_setSgip (s : State) (v : BitVec 1024) (d : Cpu) (n : Nat) :
    latchOf (s.setSgip v) d n = latchOf s d n := rfl
@[simp] theorem lineOf_setSgip (s : State) (v : BitVec 1024) (d : Cpu) (n : Nat) :
    lineOf (s.setSgip v) d n = lineOf s d n := rfl

@[simp] theorem nsbOf_setIfcs (s : State) (v : Vector CpuInterface 8) (d : Cpu) (n : Nat) :
    nsbOf (s.setIfcs v) d n = nsbOf s d n := rfl
@[simp] theorem enOf_setIfcs (s : State) (v : Vector CpuInterface 8) (d : Cpu) (n : Nat) :
    enOf (s.setIfcs v) d n = enOf s d n := rfl
@[simp] theorem priOf_setIfcs (s : State) (v : Vector CpuInterface 8) (d : Cpu) (n : Nat) :
    priOf (s.setIfcs v) d n = priOf s d n := rfl
@[simp] theorem tgtOf_setIfcs (s : State) (v : Vector CpuInterface 8) (n : Nat) :
    tgtOf (s.setIfcs v) n = tgtOf s n := rfl
@[simp] theorem edgeOf_setIfcs (s : State) (v : Vector CpuInterface 8) (d : Cpu) (n : Nat) :
    edgeOf (s.setIfcs v) d n = edgeOf s d n := rfl
@[simp] theorem latchOf_setIfcs (s : State) (v : Vector CpuInterface 8) (d : Cpu) (n : Nat) :
    latchOf (s.setIfcs v) d n = latchOf s d n := rfl
@[simp] theorem lineOf_setIfcs (s : State) (v : Vector CpuInterface 8) (d : Cpu) (n : Nat) :
    lineOf (s.setIfcs v) d n = lineOf s d n := rfl
@[simp] theorem sgipOf_setIfcs (s : State) (v : Vector CpuInterface 8) (d : Cpu) (n : Nat) (src : Cpu) :
    sgipOf (s.setIfcs v) d n src = sgipOf s d n src := rfl

@[simp] theorem nsbOf_setWq (s : State) (v : List Instr) (d : Cpu) (n : Nat) :
    nsbOf (s.setWq v) d n = nsbOf s d n := rfl
@[simp] theorem enOf_setWq (s : State) (v : List Instr) (d : Cpu) (n : Nat) :
    enOf (s.setWq v) d n = enOf s d n := rfl
@[simp] theorem priOf_setWq (s : State) (v : List Instr) (d : Cpu) (n : Nat) :
    priOf (s.setWq v) d n = priOf s d n := rfl
@[simp] theorem tgtOf_setWq (s : State) (v : List Instr) (n : Nat) :
    tgtOf (s.setWq v) n = tgtOf s n := rfl
@[simp] theorem edgeOf_setWq (s : State) (v : List Instr) (d : Cpu) (n : Nat) :
    edgeOf (s.setWq v) d n = edgeOf s d n := rfl
@[simp] theorem latchOf_setWq (s : State) (v : List Instr) (d : Cpu) (n : Nat) :
    latchOf (s.setWq v) d n = latchOf s d n := rfl
@[simp] theorem lineOf_setWq (s : State) (v : List Instr) (d : Cpu) (n : Nat) :
    lineOf (s.setWq v) d n = lineOf s d n := rfl
@[simp] theorem sgipOf_setWq (s : State) (v : List Instr) (d : Cpu) (n : Nat) (src : Cpu) :
    sgipOf (s.setWq v) d n src = sgipOf s d n src := rfl

@[simp] theorem nsbOf_respond (s : State) (v : Word) (d : Cpu) (n : Nat) :
    nsbOf (s.respond v) d n = nsbOf s d n := rfl
@[simp] theorem enOf_respond (s : State) (v : Word) (d : Cpu) (n : Nat) :
    enOf (s.respond v) d n = enOf s d n := rfl
@[simp] theorem priOf_respond (s : State) (v : Word) (d : Cpu) (n : Nat) :
    priOf (s.respond v) d n = priOf s d n := rfl
@[simp] theorem tgtOf_respond (s : State) (v : Word) (n : Nat) :
    tgtOf (s.respond v) n = tgtOf s n := rfl
@[simp] theorem edgeOf_respond (s : State) (v : Word) (d : Cpu) (n : Nat) :
    edgeOf (s.respond v) d n = edgeOf s d n := rfl
@[simp] theorem latchOf_respond (s : State) (v : Word) (d : Cpu) (n : Nat) :
    latchOf (s.respond v) d n = latchOf s d n := rfl
@[simp] theorem lineOf_respond (s : State) (v : Word) (d : Cpu) (n : Nat) :
    lineOf (s.respond v) d n = lineOf s d n := rfl
@[simp] theorem sgipOf_respond (s : State) (v : Word) (d : Cpu) (n : Nat) (src : Cpu) :
    sgipOf (s.respond v) d n src = sgipOf s d n src := rfl

@[simp] theorem nsbOf_setLine (s : State) (v : Bits) (d : Cpu) (n : Nat) :
    nsbOf (s.setLine v) d n = nsbOf s d n := rfl
@[simp] theorem enOf_setLine (s : State) (v : Bits) (d : Cpu) (n : Nat) :
    enOf (s.setLine v) d n = enOf s d n := rfl
@[simp] theorem priOf_setLine (s : State) (v : Bits) (d : Cpu) (n : Nat) :
    priOf (s.setLine v) d n = priOf s d n := rfl
@[simp] theorem tgtOf_setLine (s : State) (v : Bits) (n : Nat) :
    tgtOf (s.setLine v) n = tgtOf s n := rfl
@[simp] theorem edgeOf_setLine (s : State) (v : Bits) (d : Cpu) (n : Nat) :
    edgeOf (s.setLine v) d n = edgeOf s d n := rfl
@[simp] theorem latchOf_setLine (s : State) (v : Bits) (d : Cpu) (n : Nat) :
    latchOf (s.setLine v) d n = latchOf s d n := rfl
@[simp] theorem sgipOf_setLine (s : State) (v : Bits) (d : Cpu) (n : Nat) (src : Cpu) :
    sgipOf (s.setLine v) d n src = sgipOf s d n src := rfl

@[simp] theorem nsbOf_drawn (s : State) (d : Cpu) (n : Nat) :
    nsbOf (s.drawn) d n = nsbOf s d n := rfl
@[simp] theorem enOf_drawn (s : State) (d : Cpu) (n : Nat) :
    enOf (s.drawn) d n = enOf s d n := rfl
@[simp] theorem priOf_drawn (s : State) (d : Cpu) (n : Nat) :
    priOf (s.drawn) d n = priOf s d n := rfl
@[simp] theorem tgtOf_drawn (s : State) (n : Nat) :
    tgtOf (s.drawn) n = tgtOf s n := rfl
@[simp] theorem edgeOf_drawn (s : State) (d : Cpu) (n : Nat) :
    edgeOf (s.drawn) d n = edgeOf s d n := rfl
@[simp] theorem latchOf_drawn (s : State) (d : Cpu) (n : Nat) :
    latchOf (s.drawn) d n = latchOf s d n := rfl
@[simp] theorem lineOf_drawn (s : State) (d : Cpu) (n : Nat) :
    lineOf (s.drawn) d n = lineOf s d n := rfl
@[simp] theorem sgipOf_drawn (s : State) (d : Cpu) (n : Nat) (src : Cpu) :
    sgipOf (s.drawn) d n src = sgipOf s d n src := rfl

end Sys2Proof.Machine
end

