-- ==== Sys2Proof/Laws/Access.lean ====
section
/-! SUPPORT. What the shared operations of an access can do: each lemma says it once. -/

namespace Sys2Proof.Machine

/-! ### Acceptance -/

/-- An accepted Distributor access has its effect. -/
theorem onDist_eq {a : DistArgs} {s effect : State} (hr : requesterExists s.cfg a.req = true)
    (hu : s.unpred = false) : onDist a s effect = .next effect := by
  simp [onDist, hr, hu]

/-- Everything a Distributor access can do. -/
theorem onDist_next {a : DistArgs} {s effect t : State} (h : onDist a s effect = .next t) :
    requesterExists s.cfg a.req = true ∧ t = if s.unpred then havoc s else effect := by
  unfold onDist at h
  split at h
  · next hr => exact ⟨hr, by simpa using h.symm⟩
  · cases h

/-- An accepted CPU interface access has its effect. -/
theorem onCpu_eq {a : CpuArgs} {s effect : State} (hr : requesterExists s.cfg a.req = true)
    (hi : cpuExists s.cfg a.ifc = true) (hx : interfaceReachable s.cfg a.req a.ifc = true)
    (hu : s.unpred = false) : onCpu a s effect = .next effect := by
  simp [onCpu, hr, hi, hx, hu]

/-- Everything a CPU interface access can do. -/
theorem onCpu_next {a : CpuArgs} {s effect t : State} (h : onCpu a s effect = .next t) :
    (requesterExists s.cfg a.req = true ∧ cpuExists s.cfg a.ifc = true ∧
      interfaceReachable s.cfg a.req a.ifc = true) ∧
      t = if s.unpred then havoc s else effect := by
  unfold onCpu at h
  split at h
  · cases h
  · split at h
    · cases h
    · split at h
      · cases h
      · next h1 h2 h3 =>
        exact ⟨⟨by simpa using h1, by simpa using h2, by simpa using h3⟩, by simpa using h.symm⟩

/-! ### Size and alignment -/

/-- An access of a supported size and alignment has its effect. -/
theorem sized_eq {bytes : Bool} {lane : BitVec 2} {size : AccessSize} {s effect : State}
    (h : accessError s.cfg bytes lane size = none) : sized bytes lane size s effect = effect := by
  simp [sized, h]

/-- An access that leaves UNPRED clear has its effect. -/
theorem sized_of_unpred {bytes : Bool} {lane : BitVec 2} {size : AccessSize} {s effect t : State}
    (h : sized bytes lane size s effect = t) (hu : t.unpred = false) :
    accessError s.cfg bytes lane size = none ∧ t = effect := by
  unfold sized at h
  split at h
  · subst h; simp [raise, havoc] at hu
  · next he => exact ⟨he, h.symm⟩

/-- An aligned word access is supported by every register (R83, R84). -/
@[simp] theorem accessError_word (cfg : Config) (bytes : Bool) :
    accessError cfg bytes 0#2 .word = none := rfl

/-- A byte access is supported by a byte accessible register (R83). -/
@[simp] theorem accessError_byte (cfg : Config) (lane : BitVec 2) :
    accessError cfg true lane .byte = none := rfl

/-! ### UNPREDICTABLE -/

@[simp] theorem havoc_unpred (s : State) : (havoc s).unpred = s.unpred := rfl
@[simp] theorem havoc_cfg (s : State) : (havoc s).cfg = s.cfg := rfl
@[simp] theorem havoc_gic (s : State) : (havoc s).gic = unpredictableGic s.tick := rfl
@[simp] theorem havoc_line (s : State) : (havoc s).line = s.line := rfl
@[simp] theorem havoc_inputs (s : State) : (havoc s).inputs = s.inputs := rfl
@[simp] theorem havoc_tick (s : State) : (havoc s).tick = s.tick + 1 := rfl
@[simp] theorem raise_unpred (why : Unpredictable) (s : State) : (raise why s).unpred = true := rfl
@[simp] theorem raise_cfg (why : Unpredictable) (s : State) : (raise why s).cfg = s.cfg := rfl
@[simp] theorem raise_line (why : Unpredictable) (s : State) : (raise why s).line = s.line := rfl
@[simp] theorem raise_inputs (why : Unpredictable) (s : State) :
    (raise why s).inputs = s.inputs := rfl
@[simp] theorem raise_tick (why : Unpredictable) (s : State) :
    (raise why s).tick = s.tick + 1 := rfl

/-! ### Reads and writes -/

theorem readDist_eq {a : DistArgs} {s : State} {v : Word}
    (hr : requesterExists s.cfg a.req = true) (hu : s.unpred = false)
    (hs : accessError s.cfg false a.lane a.size = none) : readDist a s v = .next (s.respond v) := by
  rw [readDist, onDist_eq hr hu, sized_eq hs]

theorem readCpu_eq {a : CpuArgs} {s : State} {v : Word}
    (hr : requesterExists s.cfg a.req = true) (hi : cpuExists s.cfg a.ifc = true)
    (hx : interfaceReachable s.cfg a.req a.ifc = true) (hu : s.unpred = false)
    (hs : accessError s.cfg false a.lane a.size = none) : readCpu a s v = .next (s.respond v) := by
  rw [readCpu, onCpu_eq hr hi hx hu, sized_eq hs]

theorem writeCpu_eq {a : CpuArgs} {s effect : State}
    (hr : requesterExists s.cfg a.req = true) (hi : cpuExists s.cfg a.ifc = true)
    (hx : interfaceReachable s.cfg a.req a.ifc = true) (hu : s.unpred = false)
    (hs : accessError s.cfg false a.lane a.size = none) : writeCpu a s effect = .next effect := by
  rw [writeCpu, onCpu_eq hr hi hx hu, sized_eq hs]

theorem writeDist_eq {a : DistArgs} {i : Instr} {s effect : State}
    (hr : requesterExists s.cfg a.req = true) (hu : s.unpred = false)
    (hd : writesDelayed s.cfg = false) : writeDist a i s effect = .next effect := by
  simp [writeDist, onDist_eq hr hu, hd]

/-- A Distributor write where writes are delayed only joins the queue (R391). -/
theorem writeDist_delayed {a : DistArgs} {i : Instr} {s effect : State}
    (hr : requesterExists s.cfg a.req = true) (hu : s.unpred = false)
    (hd : writesDelayed s.cfg = true) :
    writeDist a i s effect = .next (s.setWq (s.gic.wq ++ [i])) := by
  simp [writeDist, onDist_eq hr hu, hd]

/-! ### The step -/

/-- The step of a machine whose oldest waiting operation is an access runs its instruction. -/
theorem step_access {s : State} {aw data : Word} {rest : List Input} {i : Instr}
    (hq : s.inputs = .access aw data :: rest) (hd : decode aw data = .ok i) :
    step s = exec i { s with inputs := rest } := by
  simp [step, takeInput, hq, access, hd]

/-! ### Physical addresses -/

/-- The interface an address reaches: one whose block holds it, and the requester's own or the only one
(R81, R101). -/
theorem addressedInterface_eq_some {cfg : Config} {req : Option Cpu} {addr : Nat} {c : Cpu} :
    addressedInterface cfg req addr = some c ↔ inCpuBlock cfg c addr = true ∧
      (sourceId cfg req = some c ∨ ∀ d, inCpuBlock cfg d addr = true → d = c) := by
  have hm : ∀ d, d ∈ (List.finRange 8).filter (fun c => inCpuBlock cfg c addr) ↔
      inCpuBlock cfg d addr = true := fun d => by simp
  have hn : ((List.finRange 8).filter fun c => inCpuBlock cfg c addr).Nodup :=
    (List.nodup_finRange 8).filter _
  unfold addressedInterface
  generalize (List.finRange 8).filter (fun c => inCpuBlock cfg c addr) = l at *
  simp only [← hm]
  cases hf : l.find? fun c => decide (sourceId cfg req = some c) with
  | some d =>
    have h1 := List.find?_some hf
    have h2 := List.mem_of_find?_eq_some hf
    simp only [decide_eq_true_eq] at h1
    simp only [Option.some.injEq, h1]
    constructor
    · rintro rfl; exact ⟨h2, .inl rfl⟩
    · rintro ⟨-, rfl | h⟩
      · rfl
      · exact h d h2
  | none =>
    have h1 : ∀ d ∈ l, ¬ sourceId cfg req = some d := by simpa using hf
    match l, hn, h1 with
    | [], _, _ => simp
    | [d], _, h1 =>
      simp only [Option.some.injEq, List.mem_singleton, forall_eq]
      constructor
      · rintro rfl; exact ⟨rfl, .inr rfl⟩
      · rintro ⟨rfl, -⟩; rfl
    | d :: e :: r, hn, h1 =>
      simp only [reduceCtorEq, false_iff]
      rintro ⟨hc, h | h⟩
      · exact h1 c hc h
      · have a := h d (by simp)
        have b := h e (by simp)
        rw [a, b] at hn
        simp at hn

/-- The step of a machine whose oldest waiting operation is a read or write of the memory map is that of
the access word of its address (R12). -/
theorem step_mem {s : State} {m : MemAccess} {rest : List Input} {aw : Word}
    (hq : s.inputs = .mem m :: rest) (ha : memAccessWord s.cfg m = some aw) :
    step s = step { s with inputs := .access aw m.data :: rest } := by
  simp [step, takeInput, hq, memAccess, ha]

/-- An address outside every block of the GIC is refused (D38). -/
theorem step_mem_none {s : State} {m : MemAccess} {rest : List Input}
    (hq : s.inputs = .mem m :: rest) (ha : memAccessWord s.cfg m = none) :
    step s = .refused .notGicAddress := by
  simp [step, takeInput, hq, memAccess, ha]

end Sys2Proof.Machine
end

