-- ==== Sys2Proof/Laws/Bitmaps.lean ====
section
/-! SUPPORT. What the per-field reads and writes of the Distributor registers do (R109, R110). -/

namespace Sys2Proof.Machine

/-! ### Banks -/

theorem bank_private (req : Option Cpu) {n : Nat} (h : n < 32) : bank req n = req := if_pos h

theorem bank_spi (req : Option Cpu) {n : Nat} (h : 32 ≤ n) : bank req n = some 0 :=
  if_neg (by omega)

/-- All fields of one 32-bit instance are in one bank. -/
theorem bank_instance32 (req : Option Cpu) (m f : Nat) (hf : f < 32) :
    bank req (32 * m + f) = bank req (32 * m) := by
  unfold bank
  by_cases h : m = 0
  · subst h; simp [hf]
  · have h1 : ¬ 32 * m + f < 32 := by omega
    have h2 : ¬ 32 * m < 32 := by omega
    simp [h1, h2]

/-- All fields of one 16-field instance are in one bank. -/
theorem bank_instance16 (req : Option Cpu) (m f : Nat) (hf : f < 16) :
    bank req (16 * m + f) = bank req (16 * m) := by
  unfold bank
  by_cases h : 16 * m < 32
  · have h1 : 16 * m + f < 32 := by omega
    simp [h1, h]
  · have h1 : ¬ 16 * m + f < 32 := by omega
    simp [h1, h]

theorem slot_instance32 (c : Cpu) (m f : Nat) (hf : f < 32) :
    slot c (32 * m + f) = slot c (32 * m) + f := by
  unfold slot
  by_cases h : m = 0
  · subst h; simp [hf]
  · have h1 : ¬ 32 * m + f < 32 := by omega
    have h2 : ¬ 32 * m < 32 := by omega
    simp only [h1, h2, if_false]; omega

theorem slot_instance16 (c : Cpu) (m f : Nat) (hf : f < 16) :
    slot c (16 * m + f) = slot c (16 * m) + f := by
  unfold slot
  by_cases h : 16 * m < 32
  · have h1 : 16 * m + f < 32 := by omega
    simp only [h1, h, if_true]; omega
  · have h1 : ¬ 16 * m + f < 32 := by omega
    simp only [h1, h, if_false]; omega

/-! ### Reads -/

/-- Bit f of BitmapRead (R110). -/
theorem getLsbD_bitmapRead (s : State) (req : Option Cpu) (ns : Bool) (m f : Nat)
    (v : Cpu → Nat → Bool) :
    (bitmapRead s req ns m v).getLsbD f =
      (decide (f < 32) && readField s req ns (32 * m + f) false fun c => v c (32 * m + f)) :=
  getLsbD_bitsOf _ _ _

/-- Bit b of a read of ICDICFR (R245). -/
theorem getLsbD_configRead (s : State) (req : Option Cpu) (ns : Bool) (m b : Nat)
    (v : Cpu → Nat → Bool) :
    (configRead s req ns m v).getLsbD b =
      (decide (b < 32) && (decide (b % 2 = 1) &&
        readField s req ns (16 * m + b / 2) false fun c => v c (16 * m + b / 2))) :=
  getLsbD_bitsOf _ _ _

/-! ### Writes -/

/-- A field of 32 at a slot of the instance. -/
theorem getLsbD_shifted {w : Nat} (x : BitVec w) (base f : Nat) (hk : base + f < 1244) :
    ((x.setWidth 1244) <<< base).getLsbD (base + f) = x.getLsbD f := by
  rw [BitVec.getLsbD_shiftLeft, BitVec.getLsbD_setWidth]
  have h1 : ¬ base + f < base := by omega
  have h2 : base + f - base = f := by omega
  have h3 : f < 1244 := by omega
  simp [hk, h1, h2, h3]

/-- Where a bitmap write acts (R110): on the slot of interrupt (c,n) exactly if n lies in instance m,
c is the bank the requester reaches, the bit written is 1 and the field is Writable. -/
theorem getLsbD_bitmapTargets (s : State) (req : Option Cpu) (ns : Bool) (m : Nat) (data : Word)
    (further : Cpu → Nat → Bool) (k : Nat) :
    (bitmapTargets s req ns m data further).getLsbD k = true ↔
      k < 1244 ∧ ∃ c, bank req (32 * m) = some c ∧ slot c (32 * m) ≤ k ∧
        k < slot c (32 * m) + 32 ∧ data.getLsbD (k - slot c (32 * m)) = true ∧
        writable s c (32 * m + (k - slot c (32 * m))) ns = true ∧
        further c (32 * m + (k - slot c (32 * m))) = true := by
  unfold bitmapTargets
  split
  · next h => simp [h]
  · next c h =>
    rw [BitVec.getLsbD_shiftLeft, BitVec.getLsbD_setWidth, getLsbD_bitsOf]
    by_cases hk : k < 1244
    · by_cases hlo : slot c (32 * m) ≤ k
      · by_cases hhi : k - slot c (32 * m) < 32
        · have h1 : ¬ k < slot c (32 * m) := by omega
          have h2 : k < slot c (32 * m) + 32 := by omega
          have h3 : k - slot c (32 * m) < 1244 := by omega
          simp [hk, hlo, hhi, h1, h2, h3, h, writesField, bank_instance32 req m _ hhi]
        · have h2 : ¬ k < slot c (32 * m) + 32 := by omega
          simp [hhi, h2, h]
      · have h1 : k < slot c (32 * m) := by omega
        have h2 : ¬ slot c (32 * m) ≤ k := by omega
        simp [h1, h2, h]
    · simp [hk]

/-- Where a write of ICDICFR acts (R246). -/
theorem getLsbD_configTargets (s : State) (req : Option Cpu) (ns : Bool) (m : Nat)
    (further : Cpu → Nat → Bool) (k : Nat) :
    (configTargets s req ns m further).getLsbD k = true ↔
      k < 1244 ∧ ∃ c, bank req (16 * m) = some c ∧ slot c (16 * m) ≤ k ∧
        k < slot c (16 * m) + 16 ∧
        writable s c (16 * m + (k - slot c (16 * m))) ns = true ∧
        further c (16 * m + (k - slot c (16 * m))) = true := by
  unfold configTargets
  split
  · next h => simp [h]
  · next c h =>
    rw [BitVec.getLsbD_shiftLeft, BitVec.getLsbD_setWidth, getLsbD_bitsOf]
    by_cases hk : k < 1244
    · by_cases hlo : slot c (16 * m) ≤ k
      · by_cases hhi : k - slot c (16 * m) < 16
        · have h1 : ¬ k < slot c (16 * m) := by omega
          have h2 : k < slot c (16 * m) + 16 := by omega
          have h3 : k - slot c (16 * m) < 1244 := by omega
          simp [hk, hlo, hhi, h1, h2, h3, h, writesField, bank_instance16 req m _ hhi]
        · have h2 : ¬ k < slot c (16 * m) + 16 := by omega
          simp [hhi, h2, h]
      · have h1 : k < slot c (16 * m) := by omega
        have h2 : ¬ slot c (16 * m) ≤ k := by omega
        simp [h1, h2, h]
    · simp [hk]

/-- A bitmap write acts on no slot of an interrupt the access cannot write. -/
theorem bitmapTargets_eq_false {s : State} {req : Option Cpu} {ns : Bool} {m : Nat} {data : Word}
    {further : Cpu → Nat → Bool} {c : Cpu} {n : Nat}
    (h : ∀ d, slot d n = slot c n → writable s d n ns = false) :
    (bitmapTargets s req ns m data further).getLsbD (slot c n) = false := by
  rw [Bool.eq_false_iff]
  intro ht
  rw [getLsbD_bitmapTargets] at ht
  obtain ⟨-, d, -, hlo, hhi, -, hw, -⟩ := ht
  obtain ⟨f, hf⟩ : ∃ f, slot c n - slot d (32 * m) = f := ⟨_, rfl⟩
  have hf32 : f < 32 := by omega
  have hs : slot d (32 * m + f) = slot c n := by rw [slot_instance32 d m f hf32]; omega
  rw [hf] at hw
  have hid : 32 * m + f = n := (slot_inj.mp hs).1
  rw [hid] at hw hs
  rw [h d hs] at hw
  cases hw

/-! ### Byte fields -/

/-- A byte write acts on the bytes its targets name and leaves every other byte. -/
theorem getByte_writeBytes_of_ne (lane : BitVec 2) (size : AccessSize) (data : Word)
    (target : Nat → Option Nat) (value : Byte → Byte) (v : Bytes) (k : Nat)
    (h : ∀ j, j < sizeBytes size → target (lane.toNat + j) ≠ some k) :
    getByte (writeBytes lane size data target value v) k = getByte v k := by
  unfold writeBytes
  have hl : ∀ j ∈ List.range (sizeBytes size), target (lane.toNat + j) ≠ some k :=
    fun j hj => h j (List.mem_range.mp hj)
  revert hl
  generalize List.range (sizeBytes size) = l
  intro hl
  induction l generalizing v with
  | nil => rfl
  | cons j l ih =>
    rw [List.foldl_cons, ih _ fun i hi => hl i (List.mem_cons_of_mem _ hi)]
    have hj := hl j List.mem_cons_self
    split
    · rfl
    · next i hi =>
      rw [getByte_putByte, if_neg]
      rintro ⟨rfl, -⟩
      exact hj hi

/-- A property of the bytes that every written value has is kept by a byte write. -/
theorem writeBytes_forall {p : Byte → Prop} {lane : BitVec 2} {size : AccessSize} {data : Word}
    {target : Nat → Option Nat} {value : Byte → Byte} {v : Bytes} (hp : ∀ b, p (value b))
    (hv : ∀ k, p (getByte v k)) (k : Nat) :
    p (getByte (writeBytes lane size data target value v) k) := by
  unfold writeBytes
  generalize List.range (sizeBytes size) = l
  induction l generalizing v with
  | nil => exact hv k
  | cons j l ih =>
    rw [List.foldl_cons]
    refine ih fun i => ?_
    split
    · exact hv i
    · rw [getByte_putByte]
      split
      · exact hp _
      · exact hv i

end Sys2Proof.Machine
end

