-- ==== Sys2Proof/Laws/Banks.lean ====
section
/-! SUPPORT. What the requester's bank means for a statement: an SPI has one copy, so nothing about it
depends on the interface it is asked of, and a field a requester reads or writes is that of an interface
it reaches (R25, R53, R100). Then the course of a well-formed access in the terms of Safety. -/

namespace Sys2Proof.Machine

/-! ### An SPI has one copy -/

theorem slot_spi_eq {n : Nat} (h : 32 ≤ n) (c d : Cpu) : slot c n = slot d n := by
  rw [slot_spi c h, slot_spi d h]

theorem nsbOf_spi {s : State} {n : Nat} (h : 32 ≤ n) (c d : Cpu) : nsbOf s c n = nsbOf s d n := by
  unfold nsbOf alwaysSecure alwaysNs
  rw [slot_spi_eq h c d]

theorem isSecureInt_spi {s : State} {n : Nat} (h : 32 ≤ n) (c d : Cpu) :
    isSecureInt s c n = isSecureInt s d n := by
  unfold isSecureInt
  rw [nsbOf_spi h c d]

theorem visible_spi {s : State} {n : Nat} {ns : Bool} (h : 32 ≤ n) (c d : Cpu) :
    visible s c n ns = visible s d n ns := by
  unfold visible
  rw [isSecureInt_spi h c d, implemented_spi s.cfg c d h]

theorem writable_spi {s : State} {n : Nat} {ns : Bool} (h : 32 ≤ n) (c d : Cpu) :
    writable s c n ns = writable s d n ns := by
  unfold writable
  rw [visible_spi h c d]

theorem permanentlyEnabled_spi {cfg : Config} {n : Nat} (h : 32 ≤ n) (c d : Cpu) :
    permanentlyEnabled cfg c n = permanentlyEnabled cfg d n := by
  unfold permanentlyEnabled
  rw [slot_spi_eq h c d]

theorem fixedPriority_spi {cfg : Config} {n : Nat} (h : 32 ≤ n) (c d : Cpu) :
    fixedPriority cfg c n = fixedPriority cfg d n := by
  unfold fixedPriority
  rw [slot_spi_eq h c d]

theorem enOf_spi {s : State} {n : Nat} (h : 32 ≤ n) (c d : Cpu) : enOf s c n = enOf s d n := by
  unfold enOf
  rw [permanentlyEnabled_spi h c d, slot_spi_eq h c d]

theorem priOf_spi {s : State} {n : Nat} (h : 32 ≤ n) (c d : Cpu) : priOf s c n = priOf s d n := by
  unfold priOf
  rw [fixedPriority_spi h c d, slot_spi_eq h c d]

theorem edgeOf_spi {s : State} {n : Nat} (h : 32 ≤ n) (c d : Cpu) : edgeOf s c n = edgeOf s d n := by
  unfold edgeOf cfgProgrammable
  rw [slot_spi_eq h c d]

theorem fwdEn_spi {s : State} {n : Nat} (h : 32 ≤ n) (c d : Cpu) : fwdEn s c n = fwdEn s d n := by
  unfold fwdEn
  rw [isSecureInt_spi h c d]

theorem pend_spi {s : State} {n : Nat} (h : 32 ≤ n) (c d : Cpu) : pend s c n = pend s d n := by
  have h16 : ¬ n < 16 := by omega
  simp only [pend, h16, if_false, pendPeripheral, latchOf, lineOf, edgeOf_spi h c d,
    fwdEn_spi h c d, slot_spi_eq h c d]

theorem act_actAny {s : State} {c : Cpu} {n : Nat} (h : act s c n = true) : actAny s n = true :=
  List.any_eq_true.mpr ⟨c, List.mem_finRange c, h⟩

/-! ### The copy a requester reaches -/

/-- A field is of the bank the requester reaches, or, for an SPI, of any. -/
theorem bank_reaches {s : State} {req : Option Cpu} {n : Nat} {P : Cpu → Prop}
    (hP : 32 ≤ n → ∀ c d, P c → P d) :
    (∃ c, bank (sourceId s.cfg req) n = some c ∧ P c) ↔ ∃ c, Reaches s req c n ∧ P c := by
  unfold Reaches
  by_cases h : n < 32
  · rw [bank_private _ h]; simp [h]
  · rw [bank_spi _ (by omega)]
    constructor
    · rintro ⟨c, -, p⟩; exact ⟨c, fun hh => absurd hh h, p⟩
    · rintro ⟨c, -, p⟩; exact ⟨0, rfl, hP (by omega) _ _ p⟩

/-- A one-bit field that a requester reads is 1 exactly if it is Visible and 1 on an interface it
reaches (R104). -/
theorem readField_eq_true {s : State} {req : Option Cpu} {ns : Bool} {n : Nat} {v : Cpu → Bool}
    (hv : 32 ≤ n → ∀ c d, v c = v d) :
    readField s (sourceId s.cfg req) ns n false v = true ↔
      ∃ c, Reaches s req c n ∧ visible s c n ns = true ∧ v c = true := by
  rw [← bank_reaches (P := fun c => visible s c n ns = true ∧ v c = true)]
  · unfold readField
    cases bank (sourceId s.cfg req) n <;> simp
  · intro h c d
    rw [visible_spi h c d, hv h c d]
    exact id

/-- A requester's write to a field takes effect exactly if the field is Writable, and meets the further
condition, on an interface it reaches (R105). -/
theorem writesField_eq_true {s : State} {req : Option Cpu} {ns : Bool} {n : Nat} {v : Cpu → Bool}
    (hv : 32 ≤ n → ∀ c d, v c = v d) :
    writesField s (sourceId s.cfg req) ns n v = true ↔
      ∃ c, Reaches s req c n ∧ writable s c n ns = true ∧ v c = true := by
  rw [← bank_reaches (P := fun c => writable s c n ns = true ∧ v c = true)]
  · unfold writesField
    cases bank (sourceId s.cfg req) n <;> simp
  · intro h c d
    rw [writable_spi h c d, hv h c d]
    exact id

/-- A bitmap write acts on interrupt (c,n) exactly if n is of the instance, the requester reaches
(c,n), the bit is written 1, and the field is Writable and meets the further condition (R110). -/
theorem bitmapTargets_slot {s : State} {req : Option Cpu} {ns : Bool} {data : Word} {m n : Nat}
    {c : Cpu} {further : Cpu → Nat → Bool} (hn : n < 1020)
    (hf : 32 ≤ n → ∀ c d, further c n = further d n) :
    (bitmapTargets s (sourceId s.cfg req) ns m data further).getLsbD (slot c n) = true ↔
      n / 32 = m ∧ Reaches s req c n ∧ data.getLsbD (n % 32) = true ∧ writable s c n ns = true ∧
        further c n = true := by
  rw [getLsbD_bitmapTargets]
  constructor
  · rintro ⟨-, d, hb, hlo, hhi, hd, hw, hg⟩
    obtain ⟨f, hfe⟩ : ∃ f, slot c n - slot d (32 * m) = f := ⟨_, rfl⟩
    have hf32 : f < 32 := by omega
    have hs : slot d (32 * m + f) = slot c n := by rw [slot_instance32 d m f hf32]; omega
    rw [hfe] at hd hw hg
    obtain ⟨hid, hc⟩ := slot_inj.mp hs
    have : n % 32 = f := by omega
    rw [this]
    rw [hid] at hw hg
    rw [← bank_instance32 _ m f hf32, hid] at hb
    refine ⟨by omega, ?_, hd, ?_⟩
    · intro h; rw [bank_private _ h] at hb; rw [hb]; rw [hc (by omega)]
    · by_cases h : n < 32
      · rw [← hc (by omega)]; exact ⟨hw, hg⟩
      · rw [writable_spi (by omega) c d, hf (by omega) c d]; exact ⟨hw, hg⟩
  · rintro ⟨hm, hr, hd, hw, hg⟩
    refine ⟨slot_lt c hn, ?_⟩
    have hnm : 32 * m + n % 32 = n := by omega
    have hlt := Nat.mod_lt n (show 32 > 0 by decide)
    obtain ⟨d, hb, hcd⟩ : ∃ d, bank (sourceId s.cfg req) n = some d ∧ (n < 32 → d = c) := by
      by_cases h : n < 32
      · exact ⟨c, by rw [bank_private _ h, hr h], fun _ => rfl⟩
      · exact ⟨0, bank_spi _ (by omega), fun h' => absurd h' h⟩
    have hs : slot d n = slot c n := slot_inj.mpr ⟨rfl, hcd⟩
    have hsl : slot d (32 * m) + n % 32 = slot c n := by rw [← slot_instance32 d m _ hlt, hnm, hs]
    refine ⟨d, by rw [← bank_instance32 _ m _ hlt, hnm, hb], by omega, by omega, ?_⟩
    have : slot c n - slot d (32 * m) = n % 32 := by omega
    rw [this, hnm]
    refine ⟨hd, ?_⟩
    by_cases h : n < 32
    · rw [hcd h]; exact ⟨hw, hg⟩
    · rw [writable_spi (by omega) d c, hf (by omega) d c]; exact ⟨hw, hg⟩

/-! ### Accesses that are ready -/

theorem DistWordReady.read {s : State} {a : DistArgs} {v : Word} (h : DistWordReady s a) :
    readDist a s v = .next (s.respond v) := by
  refine readDist_eq h.2.1 h.1 ?_
  rw [h.2.2.1, h.2.2.2]
  exact accessError_word s.cfg false

theorem DistWordReady.effect {s e : State} {a : DistArgs} (h : DistWordReady s a) :
    onDist a s (sized false a.lane a.size s e) = .next e := by
  rw [onDist_eq h.2.1 h.1, h.2.2.1, h.2.2.2, sized_eq (accessError_word s.cfg false)]

theorem Immediate.notDelayed {s : State} (h : Immediate s) : writesDelayed s.cfg = false := by
  unfold Immediate at h
  simp [writesDelayed, h]

theorem DistWordReady.write {s e : State} {a : DistArgs} {i : Instr} (h : DistWordReady s a)
    (hi : Immediate s) : writeDist a i s (sized false a.lane a.size s e) = .next e := by
  rw [writeDist_eq h.2.1 h.1 hi.notDelayed, h.2.2.1, h.2.2.2,
    sized_eq (accessError_word s.cfg false)]

theorem CpuWordReady.effect {s e : State} {a : CpuArgs} (h : CpuWordReady s a) :
    onCpu a s (sized false a.lane a.size s e) = .next e := by
  rw [onCpu_eq h.2.1 h.2.2.1 h.2.2.2.1 h.1, h.2.2.2.2.1, h.2.2.2.2.2,
    sized_eq (accessError_word s.cfg false)]

theorem CpuWordReady.read {s : State} {a : CpuArgs} {v : Word} (h : CpuWordReady s a) :
    readCpu a s v = .next (s.respond v) := h.effect

theorem CpuWordReady.write {s e : State} {a : CpuArgs} (h : CpuWordReady s a) :
    writeCpu a s e = .next e := h.effect

/-! ### Another write latency -/

@[simp] theorem State.withLatency_gic (s : State) (l : DistWriteLatency) :
    (s.withLatency l).gic = s.gic := rfl
@[simp] theorem State.withLatency_line (s : State) (l : DistWriteLatency) :
    (s.withLatency l).line = s.line := rfl
@[simp] theorem State.withLatency_cfgsdisable (s : State) (l : DistWriteLatency) :
    (s.withLatency l).cfgsdisable = s.cfgsdisable := rfl
@[simp] theorem State.withLatency_unpred (s : State) (l : DistWriteLatency) :
    (s.withLatency l).unpred = s.unpred := rfl
@[simp] theorem State.withLatency_tick (s : State) (l : DistWriteLatency) :
    (s.withLatency l).tick = s.tick := rfl

/-- The checks of size and alignment do not depend on the write latency. -/
theorem sized_withLatency {bytes : Bool} {lane : BitVec 2} {size : AccessSize} {s e e' : State}
    {l : DistWriteLatency} (h : e' = e.withLatency l) :
    sized bytes lane size (s.withLatency l) e' = (sized bytes lane size s e).withLatency l := by
  subst h
  have hc : accessError (s.withLatency l).cfg bytes lane size = accessError s.cfg bytes lane size :=
    rfl
  unfold sized
  rw [hc]
  split <;> rfl

end Sys2Proof.Machine
end

