-- ==== Sys2Proof/Laws/Interrupts.lean ====
section
/-! SUPPORT. What taking an interrupt and returning from one do, and what the candidate list, HPPI,
the running priority and the outputs are. -/

namespace Sys2Proof.Machine

/-! ### Candidates and HPPI -/

theorem cand_implemented {s : State} {c : Cpu} {p : IntRef} (h : isCand s c p = true) :
    implemented s.cfg c p.id = true := by
  unfold isCand at h
  split at h
  · simp only [candSgi, Bool.and_eq_true] at h; exact h.1.1.1.1.2
  · simp only [cand, Bool.and_eq_true] at h; exact h.2.1.1.1.1.1.2

/-- A candidate is not active on the interface. -/
theorem cand_not_act {s : State} {c : Cpu} {p : IntRef} (h : isCand s c p = true) :
    act s c p.id = false := by
  unfold isCand at h
  split at h
  · simp only [candSgi, Bool.and_eq_true, Bool.not_eq_true'] at h; exact h.2
  · simp only [cand, Bool.and_eq_true] at h
    have h2 := h.2.2
    split at h2
    · rw [Bool.not_eq_true', actAny, List.any_eq_false] at h2
      simpa using h2 c (List.mem_finRange c)
    · simpa using h2

/-- The source of a candidate that is no SGI is 0. -/
theorem cand_src {s : State} {c : Cpu} {p : IntRef} (h : isCand s c p = true) (hn : 16 ≤ p.id) :
    p.src = 0 := by
  unfold isCand at h
  rw [if_neg (by omega)] at h
  simp only [Bool.and_eq_true, decide_eq_true_eq] at h
  exact h.1

/-- Cands(c) is the list of the candidates (R423). -/
theorem mem_cands {s : State} {c : Cpu} {p : IntRef} : p ∈ cands s c ↔ isCand s c p = true := by
  unfold cands
  rw [List.mem_filter]
  constructor
  · exact fun h => h.2
  · intro h
    refine ⟨?_, h⟩
    have hi := cand_implemented h
    have hm : p.id < maxId s.cfg := by
      simp only [implemented, Bool.and_eq_true, decide_eq_true_eq] at hi; exact hi.1.1
    unfold instances
    rw [List.mem_append]
    by_cases hn : p.id < 16
    · left
      rw [List.mem_flatMap]
      exact ⟨p.id, List.mem_range.mpr hn, List.mem_map.mpr ⟨p.src, List.mem_finRange _, rfl⟩⟩
    · right
      rw [List.mem_map]
      refine ⟨p.id - 16, List.mem_range.mpr (by omega), ?_⟩
      have hs := cand_src h (by omega)
      cases p with
      | mk i t =>
        simp only at hs hn ⊢
        rw [hs, Nat.sub_add_cancel (by omega)]

/-- The possible values of HPPI(c): the candidates of the smallest priority value (R424). -/
theorem mem_topCands {s : State} {c : Cpu} {p : IntRef} :
    p ∈ topCands s c ↔ isCand s c p = true ∧
      ∀ q, isCand s c q = true → (priOf s c p.id).toNat ≤ (priOf s c q.id).toNat := by
  simp only [topCands, List.mem_filter, mem_cands, List.all_eq_true, decide_eq_true_eq]

/-- HPPI(c) is a candidate of the smallest priority value (R424). -/
theorem hppi_mem {s : State} {c : Cpu} {p : IntRef} (h : hppi s c = some p) :
    p ∈ topCands s c := choose_mem h

theorem exists_min {α : Type} (f : α → Nat) : ∀ l : List α, l ≠ [] → ∃ x ∈ l, ∀ y ∈ l, f x ≤ f y
  | [x], _ => ⟨x, by simp, by simp⟩
  | x :: y :: r, _ => by
    obtain ⟨z, hz, hm⟩ := exists_min f (y :: r) (by simp)
    by_cases h : f x ≤ f z
    · refine ⟨x, by simp, fun w hw => ?_⟩
      rcases List.mem_cons.mp hw with rfl | hw
      · exact Nat.le_refl _
      · exact Nat.le_trans h (hm w hw)
    · refine ⟨z, List.mem_cons_of_mem _ hz, fun w hw => ?_⟩
      rcases List.mem_cons.mp hw with rfl | hw
      · omega
      · exact hm w hw

/-- HPPI(c) is none exactly when there is no candidate (R424). -/
theorem hppi_eq_none {s : State} {c : Cpu} : hppi s c = none ↔ cands s c = [] := by
  unfold hppi
  rw [choose_eq_none]
  constructor
  · intro h
    by_cases hc : cands s c = []
    · exact hc
    · exfalso
      obtain ⟨x, hx, hm⟩ := exists_min (fun p : IntRef => (priOf s c p.id).toNat) _ hc
      have : x ∈ topCands s c :=
        mem_topCands.mpr ⟨mem_cands.mp hx, fun q hq => hm q (mem_cands.mpr hq)⟩
      rw [h] at this
      exact absurd this List.not_mem_nil
  · intro h
    unfold topCands
    rw [h]
    rfl

/-! ### The running priority -/

theorem minPriority_toNat (a b : Byte) : (minPriority a b).toNat = min a.toNat b.toNat := by
  unfold minPriority; split <;> omega

/-- The fold that `runningPriority` is: a smallest value, and one of the values. -/
theorem foldl_minPriority (f : ActiveEntry → Byte) (l : List ActiveEntry) (m : Byte) :
    let r := l.foldl (fun m e => minPriority m (f e)) m
    (r = m ∨ ∃ e ∈ l, r = f e) ∧ r.toNat ≤ m.toNat ∧ ∀ e ∈ l, r.toNat ≤ (f e).toNat := by
  induction l generalizing m with
  | nil => simp
  | cons x l ih =>
    obtain ⟨h1, h2, h3⟩ := ih (minPriority m (f x))
    rw [minPriority_toNat] at h2
    refine ⟨?_, by simp only [List.foldl_cons]; omega, ?_⟩
    · rcases h1 with h | ⟨e, he, h⟩
      · rw [List.foldl_cons, h]
        unfold minPriority
        split
        · exact .inr ⟨x, List.mem_cons_self, rfl⟩
        · exact .inl rfl
      · exact .inr ⟨e, List.mem_cons_of_mem _ he, h⟩
    · intro e he
      rcases List.mem_cons.mp he with rfl | he
      · simp only [List.foldl_cons]; omega
      · exact h3 e he

/-- RPR(c) (R49): the smallest priority of the active list. -/
theorem runningPriority_eq_some {s : State} {c : Cpu} {r : Byte} :
    runningPriority s c = some r ↔ ∃ e ∈ (s.ifc c).active, r = entryPriority s c e ∧
      ∀ e' ∈ (s.ifc c).active, r.toNat ≤ (entryPriority s c e').toNat := by
  unfold runningPriority
  cases (s.ifc c).active with
  | nil => simp
  | cons x l =>
    obtain ⟨h1, h2, h3⟩ := foldl_minPriority (entryPriority s c) l (entryPriority s c x)
    simp only [Option.some.injEq]
    generalize l.foldl _ _ = m at *
    have hall : ∀ e ∈ x :: l, m.toNat ≤ (entryPriority s c e).toNat := by
      intro e he; rcases List.mem_cons.mp he with rfl | he
      · exact h2
      · exact h3 e he
    have hex : ∃ e ∈ x :: l, m = entryPriority s c e := by
      rcases h1 with h | ⟨e, he, h⟩
      · exact ⟨x, by simp, h⟩
      · exact ⟨e, by simp [he], h⟩
    constructor
    · rintro rfl
      obtain ⟨e, he, h⟩ := hex
      exact ⟨e, he, h, hall⟩
    · rintro ⟨e, he, h, hm⟩
      obtain ⟨e', he', h'⟩ := hex
      apply BitVec.eq_of_toNat_eq
      have a := hm e' he'
      have b := hall e he
      rw [h', h] at *
      omega

/-- RPR(c) is none exactly when nothing is active on c (R49). -/
theorem runningPriority_eq_none {s : State} {c : Cpu} :
    runningPriority s c = none ↔ (s.ifc c).active = [] := by
  unfold runningPriority
  cases (s.ifc c).active <;> simp

/-! ### Windows -/

theorem setAckWindow_ifc (s : State) (n : Nat) (w : Cpu → Bool) (c : Cpu) :
    (setAckWindow s n w).ifc c =
      { s.ifc c with ackWindow := putBit (s.ifc c).ackWindow (slot c n) (w c) } := by
  simp [setAckWindow]

@[simp] theorem setAckWindow_active (s : State) (n : Nat) (w : Cpu → Bool) (c : Cpu) :
    ((setAckWindow s n w).ifc c).active = (s.ifc c).active := by rw [setAckWindow_ifc]

@[simp] theorem setAckWindow_cfg (s : State) (n : Nat) (w : Cpu → Bool) :
    (setAckWindow s n w).cfg = s.cfg := rfl

/-! ### Taking an interrupt -/

@[simp] theorem clearPending_ifc (s : State) (c : Cpu) (p : IntRef) (d : Cpu) :
    (clearPending s c p).ifc d = s.ifc d := by unfold clearPending; split <;> rfl

@[simp] theorem clearPending_cfg (s : State) (c : Cpu) (p : IntRef) :
    (clearPending s c p).cfg = s.cfg := by unfold clearPending; split <;> rfl

/-- What an acknowledge does to the active lists (R431): it appends one entry to AS(c). -/
theorem acknowledge_active (s : State) (c : Cpu) (p : IntRef) (d : Cpu) :
    ((acknowledge s c p).ifc d).active =
      if d = c then (s.ifc c).active ++ [{ id := p.id, src := p.src, pri := priOf s c p.id }]
      else (s.ifc d).active := by
  unfold acknowledge
  simp only [pushActive, State.withIfc_ifc, clearPending_ifc]
  by_cases h : d = c
  · subst h
    simp only [if_true]
    split <;> simp
  · simp only [if_neg h]
    split <;> simp

@[simp] theorem acknowledge_cfg (s : State) (c : Cpu) (p : IntRef) :
    (acknowledge s c p).cfg = s.cfg := by
  unfold acknowledge; simp only [pushActive, State.withIfc_cfg, clearPending_cfg]; split <;> rfl

@[simp] theorem acknowledge_unpred (s : State) (c : Cpu) (p : IntRef) :
    (acknowledge s c p).unpred = s.unpred := by
  unfold acknowledge clearPending; split <;> split <;> rfl

@[simp] theorem acknowledge_tick (s : State) (c : Cpu) (p : IntRef) :
    (acknowledge s c p).tick = s.tick := by
  unfold acknowledge clearPending; split <;> split <;> rfl

/-- The latches after an acknowledge (R431): only that of the interrupt taken is cleared. -/
theorem acknowledge_latch (s : State) (c : Cpu) (p : IntRef) :
    (acknowledge s c p).gic.latch =
      if p.id < 16 then s.gic.latch else putBit s.gic.latch (slot c p.id) false := by
  unfold acknowledge clearPending
  split <;> split <;> rfl

/-- The pending SGIs after an acknowledge (R431): only the instance taken is cleared. -/
theorem acknowledge_sgip (s : State) (c : Cpu) (p : IntRef) :
    (acknowledge s c p).gic.sgip =
      if p.id < 16 then putBit s.gic.sgip (sgipIndex c p.id p.src) false else s.gic.sgip := by
  unfold acknowledge clearPending
  split <;> split <;> rfl

/-! ### Returning from an interrupt -/

/-- What an end of interrupt does to the active lists (R433). -/
theorem deactivate_active (s : State) (c : Cpu) (n : Nat) (d : Cpu) :
    ((deactivate s c n).ifc d).active =
      if d = c then (s.ifc c).active.filter fun e => decide (e.id ≠ n) else (s.ifc d).active := by
  unfold deactivate
  by_cases h : d = c
  · subst h
    simp only [if_true]
    split <;> simp [closeAckWindow]
  · simp only [if_neg h]
    split <;> simp [closeAckWindow, State.withIfc_ifc, h]

@[simp] theorem deactivate_cfg (s : State) (c : Cpu) (n : Nat) :
    (deactivate s c n).cfg = s.cfg := by unfold deactivate; split <;> rfl

@[simp] theorem deactivate_unpred (s : State) (c : Cpu) (n : Nat) :
    (deactivate s c n).unpred = s.unpred := by unfold deactivate; split <;> rfl

@[simp] theorem deactivate_latch (s : State) (c : Cpu) (n : Nat) :
    (deactivate s c n).gic.latch = s.gic.latch := by unfold deactivate; split <;> rfl

@[simp] theorem deactivate_sgip (s : State) (c : Cpu) (n : Nat) :
    (deactivate s c n).gic.sgip = s.gic.sgip := by unfold deactivate; split <;> rfl

/-! ### Outputs -/

/-- At most one of the two requests is asserted (R428). -/
theorem nextOutputs_not_both (s : State) (c : Cpu) :
    ¬ ((nextOutputs s c).1 = true ∧ (nextOutputs s c).2 = true) := by
  unfold nextOutputs
  split
  · simp
  · split
    · simp
    · split <;> simp

end Sys2Proof.Machine
end

