-- ==== Sys2Proof/Laws/PerInstr.lean ====
section
/-! SUPPORT. The encoder agrees with spec/opcode_table.json: the access word of every well-formed
instruction matches the row of its register and direction. One lemma per constructor of `Instr`. -/

namespace Sys2Proof.Laws.TableRow

/-- The mask and the match value of the row of an instruction, as the table has them. -/
def row : Instr → Word × Word
  | .rdIcddcr _ => (0x00003FFC#32, 0x00000000#32)
  | .wrIcddcr _ _ => (0x00003FFC#32, 0x00002000#32)
  | .rdIcdictr _ => (0x00003FFC#32, 0x00000004#32)
  | .wrIcdictr _ _ => (0x00003FFC#32, 0x00002004#32)
  | .rdIcdiidr _ => (0x00003FFC#32, 0x00000008#32)
  | .wrIcdiidr _ _ => (0x00003FFC#32, 0x00002008#32)
  | .rdRes00C _ _ => (0x00003F80#32, 0x00000000#32)
  | .wrRes00C _ _ _ => (0x00003F80#32, 0x00002000#32)
  | .rdIcdisr _ _ => (0x00003F80#32, 0x00000080#32)
  | .wrIcdisr _ _ _ => (0x00003F80#32, 0x00002080#32)
  | .rdIcdiser _ _ => (0x00003F80#32, 0x00000100#32)
  | .wrIcdiser _ _ _ => (0x00003F80#32, 0x00002100#32)
  | .rdIcdicer _ _ => (0x00003F80#32, 0x00000180#32)
  | .wrIcdicer _ _ _ => (0x00003F80#32, 0x00002180#32)
  | .rdIcdispr _ _ => (0x00003F80#32, 0x00000200#32)
  | .wrIcdispr _ _ _ => (0x00003F80#32, 0x00002200#32)
  | .rdIcdicpr _ _ => (0x00003F80#32, 0x00000280#32)
  | .wrIcdicpr _ _ _ => (0x00003F80#32, 0x00002280#32)
  | .rdIcdabr _ _ => (0x00003F80#32, 0x00000300#32)
  | .wrIcdabr _ _ _ => (0x00003F80#32, 0x00002300#32)
  | .rdRes380 _ _ => (0x00003F80#32, 0x00000380#32)
  | .wrRes380 _ _ _ => (0x00003F80#32, 0x00002380#32)
  | .rdRes7FC _ => (0x00003FFC#32, 0x000007FC#32)
  | .wrRes7FC _ _ => (0x00003FFC#32, 0x000027FC#32)
  | .rdIcdipr _ _ => (0x00003C00#32, 0x00000400#32)
  | .wrIcdipr _ _ _ => (0x00003C00#32, 0x00002400#32)
  | .rdResBFC _ => (0x00003FFC#32, 0x00000BFC#32)
  | .wrResBFC _ _ => (0x00003FFC#32, 0x00002BFC#32)
  | .rdIcdiptrPriv _ _ => (0x00003FE0#32, 0x00000800#32)
  | .wrIcdiptrPriv _ _ _ => (0x00003FE0#32, 0x00002800#32)
  | .rdIcdiptrSpi _ _ => (0x00003C00#32, 0x00000800#32)
  | .wrIcdiptrSpi _ _ _ => (0x00003C00#32, 0x00002800#32)
  | .rdIcdicfr _ _ => (0x00003F00#32, 0x00000C00#32)
  | .wrIcdicfr _ _ _ => (0x00003F00#32, 0x00002C00#32)
  | .rdImpD00 _ _ => (0x00003F00#32, 0x00000D00#32)
  | .wrImpD00 _ _ _ => (0x00003F00#32, 0x00002D00#32)
  | .rdResE00 _ _ => (0x00003F00#32, 0x00000E00#32)
  | .wrResE00 _ _ _ => (0x00003F00#32, 0x00002E00#32)
  | .rdIcdsgir _ => (0x00003FFC#32, 0x00000F00#32)
  | .wrIcdsgir _ _ => (0x00003FFC#32, 0x00002F00#32)
  | .rdIcpidr4 _ => (0x00003FFC#32, 0x00000FD0#32)
  | .wrIcpidr4 _ _ => (0x00003FFC#32, 0x00002FD0#32)
  | .rdIcpidr5 _ => (0x00003FFC#32, 0x00000FD4#32)
  | .wrIcpidr5 _ _ => (0x00003FFC#32, 0x00002FD4#32)
  | .rdIcpidr6 _ => (0x00003FFC#32, 0x00000FD8#32)
  | .wrIcpidr6 _ _ => (0x00003FFC#32, 0x00002FD8#32)
  | .rdIcpidr7 _ => (0x00003FFC#32, 0x00000FDC#32)
  | .wrIcpidr7 _ _ => (0x00003FFC#32, 0x00002FDC#32)
  | .rdIcpidr0 _ => (0x00003FFC#32, 0x00000FE0#32)
  | .wrIcpidr0 _ _ => (0x00003FFC#32, 0x00002FE0#32)
  | .rdIcpidr1 _ => (0x00003FFC#32, 0x00000FE4#32)
  | .wrIcpidr1 _ _ => (0x00003FFC#32, 0x00002FE4#32)
  | .rdIcpidr2 _ => (0x00003FFC#32, 0x00000FE8#32)
  | .wrIcpidr2 _ _ => (0x00003FFC#32, 0x00002FE8#32)
  | .rdIcpidr3 _ => (0x00003FFC#32, 0x00000FEC#32)
  | .wrIcpidr3 _ _ => (0x00003FFC#32, 0x00002FEC#32)
  | .rdIccidr0 _ => (0x00003FFC#32, 0x00000FF0#32)
  | .wrIccidr0 _ _ => (0x00003FFC#32, 0x00002FF0#32)
  | .rdIccidr1 _ => (0x00003FFC#32, 0x00000FF4#32)
  | .wrIccidr1 _ _ => (0x00003FFC#32, 0x00002FF4#32)
  | .rdIccidr2 _ => (0x00003FFC#32, 0x00000FF8#32)
  | .wrIccidr2 _ _ => (0x00003FFC#32, 0x00002FF8#32)
  | .rdIccidr3 _ => (0x00003FFC#32, 0x00000FFC#32)
  | .wrIccidr3 _ _ => (0x00003FFC#32, 0x00002FFC#32)
  | .rdResF04 _ _ => (0x00003F00#32, 0x00000F00#32)
  | .wrResF04 _ _ _ => (0x00003F00#32, 0x00002F00#32)
  | .rdIccicr _ => (0x00003FFC#32, 0x00001000#32)
  | .wrIccicr _ _ => (0x00003FFC#32, 0x00003000#32)
  | .rdIccpmr _ => (0x00003FFC#32, 0x00001004#32)
  | .wrIccpmr _ _ => (0x00003FFC#32, 0x00003004#32)
  | .rdIccbpr _ => (0x00003FFC#32, 0x00001008#32)
  | .wrIccbpr _ _ => (0x00003FFC#32, 0x00003008#32)
  | .rdIcciar _ => (0x00003FFC#32, 0x0000100C#32)
  | .wrIcciar _ _ => (0x00003FFC#32, 0x0000300C#32)
  | .rdIcceoir _ => (0x00003FFC#32, 0x00001010#32)
  | .wrIcceoir _ _ => (0x00003FFC#32, 0x00003010#32)
  | .rdIccrpr _ => (0x00003FFC#32, 0x00001014#32)
  | .wrIccrpr _ _ => (0x00003FFC#32, 0x00003014#32)
  | .rdIcchpir _ => (0x00003FFC#32, 0x00001018#32)
  | .wrIcchpir _ _ => (0x00003FFC#32, 0x00003018#32)
  | .rdIccabpr _ => (0x00003FFC#32, 0x0000101C#32)
  | .wrIccabpr _ _ => (0x00003FFC#32, 0x0000301C#32)
  | .rdRes20 _ _ => (0x00003FE0#32, 0x00001020#32)
  | .wrRes20 _ _ _ => (0x00003FE0#32, 0x00003020#32)
  | .rdImp40 _ _ => (0x00003FC0#32, 0x00001040#32)
  | .wrImp40 _ _ _ => (0x00003FC0#32, 0x00003040#32)
  | .rdImp80 _ _ => (0x00003FC0#32, 0x00001080#32)
  | .wrImp80 _ _ _ => (0x00003FC0#32, 0x00003080#32)
  | .rdImpC0 _ _ => (0x00003FF0#32, 0x000010C0#32)
  | .wrImpC0 _ _ _ => (0x00003FF0#32, 0x000030C0#32)
  | .rdIcciidr _ => (0x00003FFC#32, 0x000010FC#32)
  | .wrIcciidr _ _ => (0x00003FFC#32, 0x000030FC#32)
  | .rdResD0 _ _ => (0x00003FF0#32, 0x000010D0#32)
  | .wrResD0 _ _ _ => (0x00003FF0#32, 0x000030D0#32)
  | .rdResE0 _ _ => (0x00003FE0#32, 0x000010E0#32)
  | .wrResE0 _ _ _ => (0x00003FE0#32, 0x000030E0#32)

/-- The access word matches the row. -/
def Statement (i : Instr) : Prop :=
  i.wellFormed = true → (encode i).1 &&& (row i).1 = (row i).2

/-- The bits that select the register and the direction (R121). -/
theorem dist_select (r : DistReg) (w : Bool) (a : DistArgs) :
    distWord r w a &&& 0x3FFC#32 = (0#18 ++ BitVec.ofBool w ++ 0#1 ++ r.offset ++ 0#2 : BitVec 32) := by
  unfold distWord
  generalize r.offset = x
  generalize encodeRequester a.req = q
  generalize encodeSize a.size = z
  apply BitVec.eq_of_getLsbD_eq
  intro i hi
  have : ∀ j : Fin 32, (0x3FFC#32).getLsbD j.val = (decide (2 ≤ j.val) && decide (j.val < 14)) := by
    decide
  rw [BitVec.getLsbD_and, this ⟨i, hi⟩]
  simp only [BitVec.getLsbD_append]
  by_cases h2 : i < 2
  · have : ¬ 2 ≤ i := by omega
    simp [h2, this]
  · by_cases h14 : i < 14
    · have h2' : 2 ≤ i := by omega
      simp only [h2, h2', h14, decide_true, Bool.and_true, if_false]
      split
      · rfl
      · split
        · rfl
        · have : i - 2 - 10 - 1 = 0 := by omega
          simp [this]
    · have h1 : ¬ i - 2 < 10 := by omega
      have h3 : ¬ i - 2 - 10 < 1 := by omega
      have h4 : ¬ i - 2 - 10 - 1 < 1 := by omega
      simp [h2, h14, h1, h3, h4]

/-- The bits that select the register and the direction (R121). -/
theorem cpu_select (r : CpuReg) (w : Bool) (a : CpuArgs) :
    cpuWord r w a &&& 0x3FFC#32
      = (0#18 ++ BitVec.ofBool w ++ 1#1 ++ 0#4 ++ r.offset ++ 0#2 : BitVec 32) := by
  unfold cpuWord
  generalize r.offset = x
  generalize encodeRequester a.req = q
  generalize encodeSize a.size = z
  apply BitVec.eq_of_getLsbD_eq
  intro i hi
  have : ∀ j : Fin 32, (0x3FFC#32).getLsbD j.val = (decide (2 ≤ j.val) && decide (j.val < 14)) := by
    decide
  rw [BitVec.getLsbD_and, this ⟨i, hi⟩]
  simp only [BitVec.getLsbD_append]
  by_cases h2 : i < 2
  · have : ¬ 2 ≤ i := by omega
    simp [h2, this]
  · by_cases h14 : i < 14
    · have h2' : 2 ≤ i := by omega
      simp only [h2, h2', h14, decide_true, Bool.and_true, if_false]
      split
      · rfl
      · split
        · rfl
        · split
          · rfl
          · have : i - 2 - 6 - 4 - 1 = 0 := by omega
            simp [this]
    · have h1 : ¬ i - 2 < 6 := by omega
      have h3 : ¬ i - 2 - 6 < 4 := by omega
      have h4 : ¬ i - 2 - 6 - 4 < 1 := by omega
      have h5 : ¬ i - 2 - 6 - 4 - 1 < 1 := by omega
      simp [h2, h14, h1, h3, h4, h5]

/-- A row that looks only at the selecting bits. -/
theorem masked {x y mask v : Word} (hx : x &&& 0x3FFC#32 = y) (hm : mask &&& 0x3FFC#32 = mask)
    (hv : y &&& mask = v) : x &&& mask = v := by
  rw [← hv, ← hx, BitVec.and_assoc, BitVec.and_comm 0x3FFC#32, hm]

theorem rdIcddcr (a : DistArgs) : Statement (.rdIcddcr a) :=
  fun _ => masked (mask := 0x00003FFC#32) (v := 0x00000000#32) (dist_select _ _ _) rfl rfl

theorem wrIcddcr (a : DistArgs) (data : Word) : Statement (.wrIcddcr a data) :=
  fun _ => masked (mask := 0x00003FFC#32) (v := 0x00002000#32) (dist_select _ _ _) rfl rfl

theorem rdIcdictr (a : DistArgs) : Statement (.rdIcdictr a) :=
  fun _ => masked (mask := 0x00003FFC#32) (v := 0x00000004#32) (dist_select _ _ _) rfl rfl

theorem wrIcdictr (a : DistArgs) (data : Word) : Statement (.wrIcdictr a data) :=
  fun _ => masked (mask := 0x00003FFC#32) (v := 0x00002004#32) (dist_select _ _ _) rfl rfl

theorem rdIcdiidr (a : DistArgs) : Statement (.rdIcdiidr a) :=
  fun _ => masked (mask := 0x00003FFC#32) (v := 0x00000008#32) (dist_select _ _ _) rfl rfl

theorem wrIcdiidr (a : DistArgs) (data : Word) : Statement (.wrIcdiidr a data) :=
  fun _ => masked (mask := 0x00003FFC#32) (v := 0x00002008#32) (dist_select _ _ _) rfl rfl

theorem rdRes00C (m : BitVec 5) (a : DistArgs) : Statement (.rdRes00C m a) :=
  fun h => masked (mask := 0x00003F80#32) (v := 0x00000000#32) (dist_select _ _ _) rfl (by clear h; revert m; decide)

theorem wrRes00C (m : BitVec 5) (a : DistArgs) (data : Word) : Statement (.wrRes00C m a data) :=
  fun h => masked (mask := 0x00003F80#32) (v := 0x00002000#32) (dist_select _ _ _) rfl (by clear h; revert m; decide)

theorem rdIcdisr (m : BitVec 5) (a : DistArgs) : Statement (.rdIcdisr m a) :=
  fun h => masked (mask := 0x00003F80#32) (v := 0x00000080#32) (dist_select _ _ _) rfl (by clear h; revert m; decide)

theorem wrIcdisr (m : BitVec 5) (a : DistArgs) (data : Word) : Statement (.wrIcdisr m a data) :=
  fun h => masked (mask := 0x00003F80#32) (v := 0x00002080#32) (dist_select _ _ _) rfl (by clear h; revert m; decide)

theorem rdIcdiser (m : BitVec 5) (a : DistArgs) : Statement (.rdIcdiser m a) :=
  fun h => masked (mask := 0x00003F80#32) (v := 0x00000100#32) (dist_select _ _ _) rfl (by clear h; revert m; decide)

theorem wrIcdiser (m : BitVec 5) (a : DistArgs) (data : Word) : Statement (.wrIcdiser m a data) :=
  fun h => masked (mask := 0x00003F80#32) (v := 0x00002100#32) (dist_select _ _ _) rfl (by clear h; revert m; decide)

theorem rdIcdicer (m : BitVec 5) (a : DistArgs) : Statement (.rdIcdicer m a) :=
  fun h => masked (mask := 0x00003F80#32) (v := 0x00000180#32) (dist_select _ _ _) rfl (by clear h; revert m; decide)

theorem wrIcdicer (m : BitVec 5) (a : DistArgs) (data : Word) : Statement (.wrIcdicer m a data) :=
  fun h => masked (mask := 0x00003F80#32) (v := 0x00002180#32) (dist_select _ _ _) rfl (by clear h; revert m; decide)

theorem rdIcdispr (m : BitVec 5) (a : DistArgs) : Statement (.rdIcdispr m a) :=
  fun h => masked (mask := 0x00003F80#32) (v := 0x00000200#32) (dist_select _ _ _) rfl (by clear h; revert m; decide)

theorem wrIcdispr (m : BitVec 5) (a : DistArgs) (data : Word) : Statement (.wrIcdispr m a data) :=
  fun h => masked (mask := 0x00003F80#32) (v := 0x00002200#32) (dist_select _ _ _) rfl (by clear h; revert m; decide)

theorem rdIcdicpr (m : BitVec 5) (a : DistArgs) : Statement (.rdIcdicpr m a) :=
  fun h => masked (mask := 0x00003F80#32) (v := 0x00000280#32) (dist_select _ _ _) rfl (by clear h; revert m; decide)

theorem wrIcdicpr (m : BitVec 5) (a : DistArgs) (data : Word) : Statement (.wrIcdicpr m a data) :=
  fun h => masked (mask := 0x00003F80#32) (v := 0x00002280#32) (dist_select _ _ _) rfl (by clear h; revert m; decide)

theorem rdIcdabr (m : BitVec 5) (a : DistArgs) : Statement (.rdIcdabr m a) :=
  fun h => masked (mask := 0x00003F80#32) (v := 0x00000300#32) (dist_select _ _ _) rfl (by clear h; revert m; decide)

theorem wrIcdabr (m : BitVec 5) (a : DistArgs) (data : Word) : Statement (.wrIcdabr m a data) :=
  fun h => masked (mask := 0x00003F80#32) (v := 0x00002300#32) (dist_select _ _ _) rfl (by clear h; revert m; decide)

theorem rdRes380 (m : BitVec 5) (a : DistArgs) : Statement (.rdRes380 m a) :=
  fun h => masked (mask := 0x00003F80#32) (v := 0x00000380#32) (dist_select _ _ _) rfl (by clear h; revert m; decide)

theorem wrRes380 (m : BitVec 5) (a : DistArgs) (data : Word) : Statement (.wrRes380 m a data) :=
  fun h => masked (mask := 0x00003F80#32) (v := 0x00002380#32) (dist_select _ _ _) rfl (by clear h; revert m; decide)

theorem rdRes7FC (a : DistArgs) : Statement (.rdRes7FC a) :=
  fun _ => masked (mask := 0x00003FFC#32) (v := 0x000007FC#32) (dist_select _ _ _) rfl rfl

theorem wrRes7FC (a : DistArgs) (data : Word) : Statement (.wrRes7FC a data) :=
  fun _ => masked (mask := 0x00003FFC#32) (v := 0x000027FC#32) (dist_select _ _ _) rfl rfl

theorem rdIcdipr (m : BitVec 8) (a : DistArgs) : Statement (.rdIcdipr m a) :=
  fun h => masked (mask := 0x00003C00#32) (v := 0x00000400#32) (dist_select _ _ _) rfl (by clear h; revert m; decide)

theorem wrIcdipr (m : BitVec 8) (a : DistArgs) (data : Word) : Statement (.wrIcdipr m a data) :=
  fun h => masked (mask := 0x00003C00#32) (v := 0x00002400#32) (dist_select _ _ _) rfl (by clear h; revert m; decide)

theorem rdResBFC (a : DistArgs) : Statement (.rdResBFC a) :=
  fun _ => masked (mask := 0x00003FFC#32) (v := 0x00000BFC#32) (dist_select _ _ _) rfl rfl

theorem wrResBFC (a : DistArgs) (data : Word) : Statement (.wrResBFC a data) :=
  fun _ => masked (mask := 0x00003FFC#32) (v := 0x00002BFC#32) (dist_select _ _ _) rfl rfl

theorem rdIcdiptrPriv (m : BitVec 3) (a : DistArgs) : Statement (.rdIcdiptrPriv m a) :=
  fun h => masked (mask := 0x00003FE0#32) (v := 0x00000800#32) (dist_select _ _ _) rfl (by clear h; revert m; decide)

theorem wrIcdiptrPriv (m : BitVec 3) (a : DistArgs) (data : Word) : Statement (.wrIcdiptrPriv m a data) :=
  fun h => masked (mask := 0x00003FE0#32) (v := 0x00002800#32) (dist_select _ _ _) rfl (by clear h; revert m; decide)

theorem rdIcdiptrSpi (m : BitVec 8) (a : DistArgs) : Statement (.rdIcdiptrSpi m a) :=
  fun h => masked (mask := 0x00003C00#32) (v := 0x00000800#32) (dist_select _ _ _) rfl (by clear h; revert m; decide)

theorem wrIcdiptrSpi (m : BitVec 8) (a : DistArgs) (data : Word) : Statement (.wrIcdiptrSpi m a data) :=
  fun h => masked (mask := 0x00003C00#32) (v := 0x00002800#32) (dist_select _ _ _) rfl (by clear h; revert m; decide)

theorem rdIcdicfr (m : BitVec 6) (a : DistArgs) : Statement (.rdIcdicfr m a) :=
  fun h => masked (mask := 0x00003F00#32) (v := 0x00000C00#32) (dist_select _ _ _) rfl (by clear h; revert m; decide)

theorem wrIcdicfr (m : BitVec 6) (a : DistArgs) (data : Word) : Statement (.wrIcdicfr m a data) :=
  fun h => masked (mask := 0x00003F00#32) (v := 0x00002C00#32) (dist_select _ _ _) rfl (by clear h; revert m; decide)

theorem rdImpD00 (m : BitVec 6) (a : DistArgs) : Statement (.rdImpD00 m a) :=
  fun h => masked (mask := 0x00003F00#32) (v := 0x00000D00#32) (dist_select _ _ _) rfl (by clear h; revert m; decide)

theorem wrImpD00 (m : BitVec 6) (a : DistArgs) (data : Word) : Statement (.wrImpD00 m a data) :=
  fun h => masked (mask := 0x00003F00#32) (v := 0x00002D00#32) (dist_select _ _ _) rfl (by clear h; revert m; decide)

theorem rdResE00 (m : BitVec 6) (a : DistArgs) : Statement (.rdResE00 m a) :=
  fun h => masked (mask := 0x00003F00#32) (v := 0x00000E00#32) (dist_select _ _ _) rfl (by clear h; revert m; decide)

theorem wrResE00 (m : BitVec 6) (a : DistArgs) (data : Word) : Statement (.wrResE00 m a data) :=
  fun h => masked (mask := 0x00003F00#32) (v := 0x00002E00#32) (dist_select _ _ _) rfl (by clear h; revert m; decide)

theorem rdIcdsgir (a : DistArgs) : Statement (.rdIcdsgir a) :=
  fun _ => masked (mask := 0x00003FFC#32) (v := 0x00000F00#32) (dist_select _ _ _) rfl rfl

theorem wrIcdsgir (a : DistArgs) (data : Word) : Statement (.wrIcdsgir a data) :=
  fun _ => masked (mask := 0x00003FFC#32) (v := 0x00002F00#32) (dist_select _ _ _) rfl rfl

theorem rdIcpidr4 (a : DistArgs) : Statement (.rdIcpidr4 a) :=
  fun _ => masked (mask := 0x00003FFC#32) (v := 0x00000FD0#32) (dist_select _ _ _) rfl rfl

theorem wrIcpidr4 (a : DistArgs) (data : Word) : Statement (.wrIcpidr4 a data) :=
  fun _ => masked (mask := 0x00003FFC#32) (v := 0x00002FD0#32) (dist_select _ _ _) rfl rfl

theorem rdIcpidr5 (a : DistArgs) : Statement (.rdIcpidr5 a) :=
  fun _ => masked (mask := 0x00003FFC#32) (v := 0x00000FD4#32) (dist_select _ _ _) rfl rfl

theorem wrIcpidr5 (a : DistArgs) (data : Word) : Statement (.wrIcpidr5 a data) :=
  fun _ => masked (mask := 0x00003FFC#32) (v := 0x00002FD4#32) (dist_select _ _ _) rfl rfl

theorem rdIcpidr6 (a : DistArgs) : Statement (.rdIcpidr6 a) :=
  fun _ => masked (mask := 0x00003FFC#32) (v := 0x00000FD8#32) (dist_select _ _ _) rfl rfl

theorem wrIcpidr6 (a : DistArgs) (data : Word) : Statement (.wrIcpidr6 a data) :=
  fun _ => masked (mask := 0x00003FFC#32) (v := 0x00002FD8#32) (dist_select _ _ _) rfl rfl

theorem rdIcpidr7 (a : DistArgs) : Statement (.rdIcpidr7 a) :=
  fun _ => masked (mask := 0x00003FFC#32) (v := 0x00000FDC#32) (dist_select _ _ _) rfl rfl

theorem wrIcpidr7 (a : DistArgs) (data : Word) : Statement (.wrIcpidr7 a data) :=
  fun _ => masked (mask := 0x00003FFC#32) (v := 0x00002FDC#32) (dist_select _ _ _) rfl rfl

theorem rdIcpidr0 (a : DistArgs) : Statement (.rdIcpidr0 a) :=
  fun _ => masked (mask := 0x00003FFC#32) (v := 0x00000FE0#32) (dist_select _ _ _) rfl rfl

theorem wrIcpidr0 (a : DistArgs) (data : Word) : Statement (.wrIcpidr0 a data) :=
  fun _ => masked (mask := 0x00003FFC#32) (v := 0x00002FE0#32) (dist_select _ _ _) rfl rfl

theorem rdIcpidr1 (a : DistArgs) : Statement (.rdIcpidr1 a) :=
  fun _ => masked (mask := 0x00003FFC#32) (v := 0x00000FE4#32) (dist_select _ _ _) rfl rfl

theorem wrIcpidr1 (a : DistArgs) (data : Word) : Statement (.wrIcpidr1 a data) :=
  fun _ => masked (mask := 0x00003FFC#32) (v := 0x00002FE4#32) (dist_select _ _ _) rfl rfl

theorem rdIcpidr2 (a : DistArgs) : Statement (.rdIcpidr2 a) :=
  fun _ => masked (mask := 0x00003FFC#32) (v := 0x00000FE8#32) (dist_select _ _ _) rfl rfl

theorem wrIcpidr2 (a : DistArgs) (data : Word) : Statement (.wrIcpidr2 a data) :=
  fun _ => masked (mask := 0x00003FFC#32) (v := 0x00002FE8#32) (dist_select _ _ _) rfl rfl

theorem rdIcpidr3 (a : DistArgs) : Statement (.rdIcpidr3 a) :=
  fun _ => masked (mask := 0x00003FFC#32) (v := 0x00000FEC#32) (dist_select _ _ _) rfl rfl

theorem wrIcpidr3 (a : DistArgs) (data : Word) : Statement (.wrIcpidr3 a data) :=
  fun _ => masked (mask := 0x00003FFC#32) (v := 0x00002FEC#32) (dist_select _ _ _) rfl rfl

theorem rdIccidr0 (a : DistArgs) : Statement (.rdIccidr0 a) :=
  fun _ => masked (mask := 0x00003FFC#32) (v := 0x00000FF0#32) (dist_select _ _ _) rfl rfl

theorem wrIccidr0 (a : DistArgs) (data : Word) : Statement (.wrIccidr0 a data) :=
  fun _ => masked (mask := 0x00003FFC#32) (v := 0x00002FF0#32) (dist_select _ _ _) rfl rfl

theorem rdIccidr1 (a : DistArgs) : Statement (.rdIccidr1 a) :=
  fun _ => masked (mask := 0x00003FFC#32) (v := 0x00000FF4#32) (dist_select _ _ _) rfl rfl

theorem wrIccidr1 (a : DistArgs) (data : Word) : Statement (.wrIccidr1 a data) :=
  fun _ => masked (mask := 0x00003FFC#32) (v := 0x00002FF4#32) (dist_select _ _ _) rfl rfl

theorem rdIccidr2 (a : DistArgs) : Statement (.rdIccidr2 a) :=
  fun _ => masked (mask := 0x00003FFC#32) (v := 0x00000FF8#32) (dist_select _ _ _) rfl rfl

theorem wrIccidr2 (a : DistArgs) (data : Word) : Statement (.wrIccidr2 a data) :=
  fun _ => masked (mask := 0x00003FFC#32) (v := 0x00002FF8#32) (dist_select _ _ _) rfl rfl

theorem rdIccidr3 (a : DistArgs) : Statement (.rdIccidr3 a) :=
  fun _ => masked (mask := 0x00003FFC#32) (v := 0x00000FFC#32) (dist_select _ _ _) rfl rfl

theorem wrIccidr3 (a : DistArgs) (data : Word) : Statement (.wrIccidr3 a data) :=
  fun _ => masked (mask := 0x00003FFC#32) (v := 0x00002FFC#32) (dist_select _ _ _) rfl rfl

theorem rdResF04 (m : BitVec 6) (a : DistArgs) : Statement (.rdResF04 m a) :=
  fun h => masked (mask := 0x00003F00#32) (v := 0x00000F00#32) (dist_select _ _ _) rfl (by clear h; revert m; decide)

theorem wrResF04 (m : BitVec 6) (a : DistArgs) (data : Word) : Statement (.wrResF04 m a data) :=
  fun h => masked (mask := 0x00003F00#32) (v := 0x00002F00#32) (dist_select _ _ _) rfl (by clear h; revert m; decide)

theorem rdIccicr (a : CpuArgs) : Statement (.rdIccicr a) :=
  fun _ => masked (mask := 0x00003FFC#32) (v := 0x00001000#32) (cpu_select _ _ _) rfl rfl

theorem wrIccicr (a : CpuArgs) (data : Word) : Statement (.wrIccicr a data) :=
  fun _ => masked (mask := 0x00003FFC#32) (v := 0x00003000#32) (cpu_select _ _ _) rfl rfl

theorem rdIccpmr (a : CpuArgs) : Statement (.rdIccpmr a) :=
  fun _ => masked (mask := 0x00003FFC#32) (v := 0x00001004#32) (cpu_select _ _ _) rfl rfl

theorem wrIccpmr (a : CpuArgs) (data : Word) : Statement (.wrIccpmr a data) :=
  fun _ => masked (mask := 0x00003FFC#32) (v := 0x00003004#32) (cpu_select _ _ _) rfl rfl

theorem rdIccbpr (a : CpuArgs) : Statement (.rdIccbpr a) :=
  fun _ => masked (mask := 0x00003FFC#32) (v := 0x00001008#32) (cpu_select _ _ _) rfl rfl

theorem wrIccbpr (a : CpuArgs) (data : Word) : Statement (.wrIccbpr a data) :=
  fun _ => masked (mask := 0x00003FFC#32) (v := 0x00003008#32) (cpu_select _ _ _) rfl rfl

theorem rdIcciar (a : CpuArgs) : Statement (.rdIcciar a) :=
  fun _ => masked (mask := 0x00003FFC#32) (v := 0x0000100C#32) (cpu_select _ _ _) rfl rfl

theorem wrIcciar (a : CpuArgs) (data : Word) : Statement (.wrIcciar a data) :=
  fun _ => masked (mask := 0x00003FFC#32) (v := 0x0000300C#32) (cpu_select _ _ _) rfl rfl

theorem rdIcceoir (a : CpuArgs) : Statement (.rdIcceoir a) :=
  fun _ => masked (mask := 0x00003FFC#32) (v := 0x00001010#32) (cpu_select _ _ _) rfl rfl

theorem wrIcceoir (a : CpuArgs) (data : Word) : Statement (.wrIcceoir a data) :=
  fun _ => masked (mask := 0x00003FFC#32) (v := 0x00003010#32) (cpu_select _ _ _) rfl rfl

theorem rdIccrpr (a : CpuArgs) : Statement (.rdIccrpr a) :=
  fun _ => masked (mask := 0x00003FFC#32) (v := 0x00001014#32) (cpu_select _ _ _) rfl rfl

theorem wrIccrpr (a : CpuArgs) (data : Word) : Statement (.wrIccrpr a data) :=
  fun _ => masked (mask := 0x00003FFC#32) (v := 0x00003014#32) (cpu_select _ _ _) rfl rfl

theorem rdIcchpir (a : CpuArgs) : Statement (.rdIcchpir a) :=
  fun _ => masked (mask := 0x00003FFC#32) (v := 0x00001018#32) (cpu_select _ _ _) rfl rfl

theorem wrIcchpir (a : CpuArgs) (data : Word) : Statement (.wrIcchpir a data) :=
  fun _ => masked (mask := 0x00003FFC#32) (v := 0x00003018#32) (cpu_select _ _ _) rfl rfl

theorem rdIccabpr (a : CpuArgs) : Statement (.rdIccabpr a) :=
  fun _ => masked (mask := 0x00003FFC#32) (v := 0x0000101C#32) (cpu_select _ _ _) rfl rfl

theorem wrIccabpr (a : CpuArgs) (data : Word) : Statement (.wrIccabpr a data) :=
  fun _ => masked (mask := 0x00003FFC#32) (v := 0x0000301C#32) (cpu_select _ _ _) rfl rfl

theorem rdRes20 (m : BitVec 3) (a : CpuArgs) : Statement (.rdRes20 m a) :=
  fun h => masked (mask := 0x00003FE0#32) (v := 0x00001020#32) (cpu_select _ _ _) rfl (by clear h; revert m; decide)

theorem wrRes20 (m : BitVec 3) (a : CpuArgs) (data : Word) : Statement (.wrRes20 m a data) :=
  fun h => masked (mask := 0x00003FE0#32) (v := 0x00003020#32) (cpu_select _ _ _) rfl (by clear h; revert m; decide)

theorem rdImp40 (m : BitVec 4) (a : CpuArgs) : Statement (.rdImp40 m a) :=
  fun h => masked (mask := 0x00003FC0#32) (v := 0x00001040#32) (cpu_select _ _ _) rfl (by clear h; revert m; decide)

theorem wrImp40 (m : BitVec 4) (a : CpuArgs) (data : Word) : Statement (.wrImp40 m a data) :=
  fun h => masked (mask := 0x00003FC0#32) (v := 0x00003040#32) (cpu_select _ _ _) rfl (by clear h; revert m; decide)

theorem rdImp80 (m : BitVec 4) (a : CpuArgs) : Statement (.rdImp80 m a) :=
  fun h => masked (mask := 0x00003FC0#32) (v := 0x00001080#32) (cpu_select _ _ _) rfl (by clear h; revert m; decide)

theorem wrImp80 (m : BitVec 4) (a : CpuArgs) (data : Word) : Statement (.wrImp80 m a data) :=
  fun h => masked (mask := 0x00003FC0#32) (v := 0x00003080#32) (cpu_select _ _ _) rfl (by clear h; revert m; decide)

theorem rdImpC0 (m : BitVec 2) (a : CpuArgs) : Statement (.rdImpC0 m a) :=
  fun h => masked (mask := 0x00003FF0#32) (v := 0x000010C0#32) (cpu_select _ _ _) rfl (by clear h; revert m; decide)

theorem wrImpC0 (m : BitVec 2) (a : CpuArgs) (data : Word) : Statement (.wrImpC0 m a data) :=
  fun h => masked (mask := 0x00003FF0#32) (v := 0x000030C0#32) (cpu_select _ _ _) rfl (by clear h; revert m; decide)

theorem rdIcciidr (a : CpuArgs) : Statement (.rdIcciidr a) :=
  fun _ => masked (mask := 0x00003FFC#32) (v := 0x000010FC#32) (cpu_select _ _ _) rfl rfl

theorem wrIcciidr (a : CpuArgs) (data : Word) : Statement (.wrIcciidr a data) :=
  fun _ => masked (mask := 0x00003FFC#32) (v := 0x000030FC#32) (cpu_select _ _ _) rfl rfl

theorem rdResD0 (m : BitVec 2) (a : CpuArgs) : Statement (.rdResD0 m a) :=
  fun h => masked (mask := 0x00003FF0#32) (v := 0x000010D0#32) (cpu_select _ _ _) rfl (by clear h; revert m; decide)

theorem wrResD0 (m : BitVec 2) (a : CpuArgs) (data : Word) : Statement (.wrResD0 m a data) :=
  fun h => masked (mask := 0x00003FF0#32) (v := 0x000030D0#32) (cpu_select _ _ _) rfl (by clear h; revert m; decide)

theorem rdResE0 (m : BitVec 3) (a : CpuArgs) : Statement (.rdResE0 m a) :=
  fun h => masked (mask := 0x00003FE0#32) (v := 0x000010E0#32) (cpu_select _ _ _) rfl (by clear h; revert m; decide)

theorem wrResE0 (m : BitVec 3) (a : CpuArgs) (data : Word) : Statement (.wrResE0 m a data) :=
  fun h => masked (mask := 0x00003FE0#32) (v := 0x000030E0#32) (cpu_select _ _ _) rfl (by clear h; revert m; decide)

end Sys2Proof.Laws.TableRow
end

