-- ==== Sys2Proof/Laws/Reset.lean ====
section
/-! SUPPORT. The fields of the reset state, for every configuration. -/

namespace Sys2Proof.Machine

@[simp] theorem resetWith_cfg (cfg : Config) : (State.resetWith cfg).cfg = cfg := rfl
@[simp] theorem resetWith_line (cfg : Config) : (State.resetWith cfg).line = 0#1244 := rfl
@[simp] theorem resetWith_inputs (cfg : Config) : (State.resetWith cfg).inputs = [] := rfl
@[simp] theorem resetWith_unpred (cfg : Config) : (State.resetWith cfg).unpred = false := rfl
@[simp] theorem resetWith_cfgsdisable (cfg : Config) :
    (State.resetWith cfg).cfgsdisable = false := rfl
@[simp] theorem resetWith_gic (cfg : Config) : (State.resetWith cfg).gic = Gic.reset cfg := rfl

@[simp] theorem gicReset_dcrS (cfg : Config) : (Gic.reset cfg).dcrS = false := rfl
@[simp] theorem gicReset_dcrNS (cfg : Config) : (Gic.reset cfg).dcrNS = false := rfl
@[simp] theorem gicReset_en (cfg : Config) : (Gic.reset cfg).en = cfg.enReset := rfl
@[simp] theorem gicReset_icfg (cfg : Config) : (Gic.reset cfg).icfg = cfg.cfgReset := rfl
@[simp] theorem gicReset_latch (cfg : Config) : (Gic.reset cfg).latch = 0#1244 := rfl
@[simp] theorem gicReset_sgip (cfg : Config) : (Gic.reset cfg).sgip = 0#1024 := rfl
@[simp] theorem gicReset_wq (cfg : Config) : (Gic.reset cfg).wq = [] := rfl
@[simp] theorem gicReset_pri (cfg : Config) (k : Nat) : getByte (Gic.reset cfg).pri k = 0#8 :=
  getByte_reset k
@[simp] theorem gicReset_tgt (cfg : Config) (k : Nat) : getByte (Gic.reset cfg).tgt k = 0#8 :=
  getByte_reset k
@[simp] theorem gicReset_ifcs (cfg : Config) (c : Cpu) :
    (Gic.reset cfg).ifcs[c] = CpuInterface.reset cfg :=
  Vector.getElem_replicate c.isLt

@[simp] theorem resetWith_ifc (cfg : Config) (c : Cpu) :
    (State.resetWith cfg).ifc c = CpuInterface.reset cfg := gicReset_ifcs cfg c

@[simp] theorem cpuReset_active (cfg : Config) : (CpuInterface.reset cfg).active = [] := rfl
@[simp] theorem cpuReset_ackWindow (cfg : Config) : (CpuInterface.reset cfg).ackWindow = 0#1244 := rfl
@[simp] theorem cpuReset_pmr (cfg : Config) : (CpuInterface.reset cfg).pmr = 0#8 := rfl

/-- Nothing is pending after reset. -/
theorem resetWith_pend (cfg : Config) (c : Cpu) (n : Nat) :
    pend (State.resetWith cfg) c n = false := by
  simp [pend, pendPeripheral, latchOf, lineOf, sgipOf]

/-- Nothing is active after reset. -/
theorem resetWith_act (cfg : Config) (c : Cpu) (n : Nat) :
    act (State.resetWith cfg) c n = false := by
  simp [act]

end Sys2Proof.Machine
end

