-- ==== Sys2Proof/Tests/Slice0.lean ====
section
/-! SUPPORT. Tests of the model against spec/95 (the vector or rule is named in each docstring), and a
witness for the hypotheses of each obligation. -/

namespace Sys2Proof.Tests

open Sys2Proof Sys2Proof.Machine

-- One theorem after another: the kernel checks of many at once need many threads.
set_option Elab.async false

/-! ### Well-formedness: each check refuses an ill-formed term -/

theorem test_wf_res00C : (Instr.rdRes00C 2#5 ⟨0#2, .word, false, none⟩).wellFormed = false
    ∧ (Instr.rdRes00C 3#5 ⟨0#2, .word, false, none⟩).wellFormed = true := by decide

theorem test_wf_icdipr : (Instr.rdIcdipr 255#8 ⟨0#2, .word, false, none⟩).wellFormed = false
    ∧ (Instr.wrIcdipr 254#8 ⟨3#2, .byte, true, none⟩ 0#32).wellFormed = true := by decide

theorem test_wf_icdiptrSpi_low :
    (Instr.rdIcdiptrSpi 7#8 ⟨0#2, .word, false, none⟩).wellFormed = false
    ∧ (Instr.rdIcdiptrSpi 8#8 ⟨0#2, .word, false, none⟩).wellFormed = true := by decide

theorem test_wf_icdiptrSpi_high :
    (Instr.wrIcdiptrSpi 255#8 ⟨0#2, .word, false, none⟩ 0#32).wellFormed = false
    ∧ (Instr.wrIcdiptrSpi 254#8 ⟨0#2, .word, false, none⟩ 0#32).wellFormed = true := by decide

theorem test_wf_resF04_low : (Instr.rdResF04 0#6 ⟨0#2, .word, false, none⟩).wellFormed = false
    ∧ (Instr.rdResF04 1#6 ⟨0#2, .word, false, none⟩).wellFormed = true := by decide

theorem test_wf_resF04_high : (Instr.wrResF04 52#6 ⟨0#2, .word, false, none⟩ 0#32).wellFormed = false
    ∧ (Instr.wrResF04 51#6 ⟨0#2, .word, false, none⟩ 0#32).wellFormed = true := by decide

theorem test_wf_resE0 : (Instr.rdResE0 7#3 ⟨0#2, .word, false, none, 0⟩).wellFormed = false
    ∧ (Instr.rdResE0 6#3 ⟨0#2, .word, false, none, 0⟩).wellFormed = true := by decide

/-! ### Decoding: words written from the fields of R120 and the offsets of R122 and R123

The access word, field by field: bits [31:24], IFC, REQV, REQ, SZ, NS, DIR, BLK, OFF. -/

/-- A word of the control family: Non-secure word write of ICDISR1 by processor 5. -/
theorem test_decode_fields_control :
    decode (0b00000000#8 ++ 0b000#3 ++ 0b1#1 ++ 0b101#3 ++ 0b10#2 ++ 0b1#1 ++ 0b1#1 ++ 0b0#1
        ++ 0b000010000100#12) 0x200#32
      = .ok (.wrIcdisr 1#5 ⟨0#2, .word, true, some 5⟩ 0x200#32) := rfl

/-- A word of the enable family: misaligned halfword read of ICDISER2 without a requester. -/
theorem test_decode_fields_enable :
    decode (0b00000000#8 ++ 0b000#3 ++ 0b0#1 ++ 0b000#3 ++ 0b01#2 ++ 0b0#1 ++ 0b0#1 ++ 0b0#1
        ++ 0b000100001011#12) 0#32
      = .ok (.rdIcdiser 2#5 ⟨3#2, .halfword, false, none⟩) := rfl

/-- A word of the priority family: byte write of ICDIPR[id 40] (0x428), processor 2. -/
theorem test_decode_fields_priority :
    decode (0b00000000#8 ++ 0b000#3 ++ 0b1#1 ++ 0b010#3 ++ 0b00#2 ++ 0b0#1 ++ 0b1#1 ++ 0b0#1
        ++ 0b010000101000#12) 0xA7#32
      = .ok (.wrIcdipr 10#8 ⟨0#2, .byte, false, some 2⟩ 0xA7#32) := rfl

/-- A word of the SGI family: word write of ICDSGIR (0xF00), processor 1. -/
theorem test_decode_fields_sgi :
    decode (0b00000000#8 ++ 0b000#3 ++ 0b1#1 ++ 0b001#3 ++ 0b10#2 ++ 0b0#1 ++ 0b1#1 ++ 0b0#1
        ++ 0b111100000000#12) 0x10003#32
      = .ok (.wrIcdsgir ⟨0#2, .word, false, some 1⟩ 0x10003#32) := rfl

/-- A word of the CPU interface family: Non-secure read of ICCIAR (0x0C) of interface 7. -/
theorem test_decode_fields_cpu :
    decode (0b00000000#8 ++ 0b111#3 ++ 0b1#1 ++ 0b110#3 ++ 0b10#2 ++ 0b1#1 ++ 0b0#1 ++ 0b1#1
        ++ 0b000000001100#12) 0#32
      = .ok (.rdIcciar ⟨0#2, .word, true, some 6, 7⟩) := rfl

/-- Reserved words are refused by name (R120, R121). -/
theorem test_decode_errors :
    decode 0x01110000#32 0#32 = .error .unusedBits ∧ decode 0x00118000#32 0#32 = .error .sizeNotUsed
      ∧ decode 0x00310000#32 0#32 = .error .interfaceOnDistributor
      ∧ decode 0x00111100#32 0#32 = .error .offsetOutsideBlock := ⟨rfl, rfl, rfl, rfl⟩

/-! Every constructor: a read by processor 0 and a Non-secure write by processor 1, bases of spec/95
section 0. -/

theorem test_decode_rdIcddcr :
    decode 0x00110000#32 0#32 = .ok (.rdIcddcr ⟨0#2, .word, false, some 0⟩) := rfl

theorem test_decode_wrIcddcr :
    decode 0x00136000#32 7#32 = .ok (.wrIcddcr ⟨0#2, .word, true, some 1⟩ 7#32) := rfl

theorem test_decode_rdIcdictr :
    decode 0x00110004#32 0#32 = .ok (.rdIcdictr ⟨0#2, .word, false, some 0⟩) := rfl

theorem test_decode_wrIcdictr :
    decode 0x00136004#32 7#32 = .ok (.wrIcdictr ⟨0#2, .word, true, some 1⟩ 7#32) := rfl

theorem test_decode_rdIcdiidr :
    decode 0x00110008#32 0#32 = .ok (.rdIcdiidr ⟨0#2, .word, false, some 0⟩) := rfl

theorem test_decode_wrIcdiidr :
    decode 0x00136008#32 7#32 = .ok (.wrIcdiidr ⟨0#2, .word, true, some 1⟩ 7#32) := rfl

theorem test_decode_rdRes00C :
    decode 0x0011007C#32 0#32 = .ok (.rdRes00C 31#5 ⟨0#2, .word, false, some 0⟩) := rfl

theorem test_decode_wrRes00C :
    decode 0x0013607C#32 7#32 = .ok (.wrRes00C 31#5 ⟨0#2, .word, true, some 1⟩ 7#32) := rfl

theorem test_decode_rdIcdisr :
    decode 0x00110084#32 0#32 = .ok (.rdIcdisr 1#5 ⟨0#2, .word, false, some 0⟩) := rfl

theorem test_decode_wrIcdisr :
    decode 0x00136084#32 7#32 = .ok (.wrIcdisr 1#5 ⟨0#2, .word, true, some 1⟩ 7#32) := rfl

theorem test_decode_rdIcdiser :
    decode 0x0011017C#32 0#32 = .ok (.rdIcdiser 31#5 ⟨0#2, .word, false, some 0⟩) := rfl

theorem test_decode_wrIcdiser :
    decode 0x0013617C#32 7#32 = .ok (.wrIcdiser 31#5 ⟨0#2, .word, true, some 1⟩ 7#32) := rfl

theorem test_decode_rdIcdicer :
    decode 0x00110180#32 0#32 = .ok (.rdIcdicer 0#5 ⟨0#2, .word, false, some 0⟩) := rfl

theorem test_decode_wrIcdicer :
    decode 0x00136180#32 7#32 = .ok (.wrIcdicer 0#5 ⟨0#2, .word, true, some 1⟩ 7#32) := rfl

theorem test_decode_rdIcdispr :
    decode 0x00110244#32 0#32 = .ok (.rdIcdispr 17#5 ⟨0#2, .word, false, some 0⟩) := rfl

theorem test_decode_wrIcdispr :
    decode 0x00136244#32 7#32 = .ok (.wrIcdispr 17#5 ⟨0#2, .word, true, some 1⟩ 7#32) := rfl

theorem test_decode_rdIcdicpr :
    decode 0x00110284#32 0#32 = .ok (.rdIcdicpr 1#5 ⟨0#2, .word, false, some 0⟩) := rfl

theorem test_decode_wrIcdicpr :
    decode 0x00136284#32 7#32 = .ok (.wrIcdicpr 1#5 ⟨0#2, .word, true, some 1⟩ 7#32) := rfl

theorem test_decode_rdIcdabr :
    decode 0x0011037C#32 0#32 = .ok (.rdIcdabr 31#5 ⟨0#2, .word, false, some 0⟩) := rfl

theorem test_decode_wrIcdabr :
    decode 0x0013637C#32 7#32 = .ok (.wrIcdabr 31#5 ⟨0#2, .word, true, some 1⟩ 7#32) := rfl

theorem test_decode_rdRes380 :
    decode 0x00110380#32 0#32 = .ok (.rdRes380 0#5 ⟨0#2, .word, false, some 0⟩) := rfl

theorem test_decode_wrRes380 :
    decode 0x00136380#32 7#32 = .ok (.wrRes380 0#5 ⟨0#2, .word, true, some 1⟩ 7#32) := rfl

theorem test_decode_rdRes7FC :
    decode 0x001107FC#32 0#32 = .ok (.rdRes7FC ⟨0#2, .word, false, some 0⟩) := rfl

theorem test_decode_wrRes7FC :
    decode 0x001367FC#32 7#32 = .ok (.wrRes7FC ⟨0#2, .word, true, some 1⟩ 7#32) := rfl

theorem test_decode_rdIcdipr :
    decode 0x001107F8#32 0#32 = .ok (.rdIcdipr 254#8 ⟨0#2, .word, false, some 0⟩) := rfl

theorem test_decode_wrIcdipr :
    decode 0x001367F8#32 7#32 = .ok (.wrIcdipr 254#8 ⟨0#2, .word, true, some 1⟩ 7#32) := rfl

theorem test_decode_rdResBFC :
    decode 0x00110BFC#32 0#32 = .ok (.rdResBFC ⟨0#2, .word, false, some 0⟩) := rfl

theorem test_decode_wrResBFC :
    decode 0x00136BFC#32 7#32 = .ok (.wrResBFC ⟨0#2, .word, true, some 1⟩ 7#32) := rfl

theorem test_decode_rdIcdiptrPriv :
    decode 0x0011081C#32 0#32 = .ok (.rdIcdiptrPriv 7#3 ⟨0#2, .word, false, some 0⟩) := rfl

theorem test_decode_wrIcdiptrPriv :
    decode 0x0013681C#32 7#32 = .ok (.wrIcdiptrPriv 7#3 ⟨0#2, .word, true, some 1⟩ 7#32) := rfl

theorem test_decode_rdIcdiptrSpi :
    decode 0x00110820#32 0#32 = .ok (.rdIcdiptrSpi 8#8 ⟨0#2, .word, false, some 0⟩) := rfl

theorem test_decode_wrIcdiptrSpi :
    decode 0x00136820#32 7#32 = .ok (.wrIcdiptrSpi 8#8 ⟨0#2, .word, true, some 1⟩ 7#32) := rfl

theorem test_decode_rdIcdicfr :
    decode 0x00110CFC#32 0#32 = .ok (.rdIcdicfr 63#6 ⟨0#2, .word, false, some 0⟩) := rfl

theorem test_decode_wrIcdicfr :
    decode 0x00136CFC#32 7#32 = .ok (.wrIcdicfr 63#6 ⟨0#2, .word, true, some 1⟩ 7#32) := rfl

theorem test_decode_rdImpD00 :
    decode 0x00110DFC#32 0#32 = .ok (.rdImpD00 63#6 ⟨0#2, .word, false, some 0⟩) := rfl

theorem test_decode_wrImpD00 :
    decode 0x00136DFC#32 7#32 = .ok (.wrImpD00 63#6 ⟨0#2, .word, true, some 1⟩ 7#32) := rfl

theorem test_decode_rdResE00 :
    decode 0x00110E00#32 0#32 = .ok (.rdResE00 0#6 ⟨0#2, .word, false, some 0⟩) := rfl

theorem test_decode_wrResE00 :
    decode 0x00136E00#32 7#32 = .ok (.wrResE00 0#6 ⟨0#2, .word, true, some 1⟩ 7#32) := rfl

theorem test_decode_rdIcdsgir :
    decode 0x00110F00#32 0#32 = .ok (.rdIcdsgir ⟨0#2, .word, false, some 0⟩) := rfl

theorem test_decode_wrIcdsgir :
    decode 0x00136F00#32 7#32 = .ok (.wrIcdsgir ⟨0#2, .word, true, some 1⟩ 7#32) := rfl

theorem test_decode_rdIcpidr4 :
    decode 0x00110FD0#32 0#32 = .ok (.rdIcpidr4 ⟨0#2, .word, false, some 0⟩) := rfl

theorem test_decode_wrIcpidr4 :
    decode 0x00136FD0#32 7#32 = .ok (.wrIcpidr4 ⟨0#2, .word, true, some 1⟩ 7#32) := rfl

theorem test_decode_rdIcpidr5 :
    decode 0x00110FD4#32 0#32 = .ok (.rdIcpidr5 ⟨0#2, .word, false, some 0⟩) := rfl

theorem test_decode_wrIcpidr5 :
    decode 0x00136FD4#32 7#32 = .ok (.wrIcpidr5 ⟨0#2, .word, true, some 1⟩ 7#32) := rfl

theorem test_decode_rdIcpidr6 :
    decode 0x00110FD8#32 0#32 = .ok (.rdIcpidr6 ⟨0#2, .word, false, some 0⟩) := rfl

theorem test_decode_wrIcpidr6 :
    decode 0x00136FD8#32 7#32 = .ok (.wrIcpidr6 ⟨0#2, .word, true, some 1⟩ 7#32) := rfl

theorem test_decode_rdIcpidr7 :
    decode 0x00110FDC#32 0#32 = .ok (.rdIcpidr7 ⟨0#2, .word, false, some 0⟩) := rfl

theorem test_decode_wrIcpidr7 :
    decode 0x00136FDC#32 7#32 = .ok (.wrIcpidr7 ⟨0#2, .word, true, some 1⟩ 7#32) := rfl

theorem test_decode_rdIcpidr0 :
    decode 0x00110FE0#32 0#32 = .ok (.rdIcpidr0 ⟨0#2, .word, false, some 0⟩) := rfl

theorem test_decode_wrIcpidr0 :
    decode 0x00136FE0#32 7#32 = .ok (.wrIcpidr0 ⟨0#2, .word, true, some 1⟩ 7#32) := rfl

theorem test_decode_rdIcpidr1 :
    decode 0x00110FE4#32 0#32 = .ok (.rdIcpidr1 ⟨0#2, .word, false, some 0⟩) := rfl

theorem test_decode_wrIcpidr1 :
    decode 0x00136FE4#32 7#32 = .ok (.wrIcpidr1 ⟨0#2, .word, true, some 1⟩ 7#32) := rfl

theorem test_decode_rdIcpidr2 :
    decode 0x00110FE8#32 0#32 = .ok (.rdIcpidr2 ⟨0#2, .word, false, some 0⟩) := rfl

theorem test_decode_wrIcpidr2 :
    decode 0x00136FE8#32 7#32 = .ok (.wrIcpidr2 ⟨0#2, .word, true, some 1⟩ 7#32) := rfl

theorem test_decode_rdIcpidr3 :
    decode 0x00110FEC#32 0#32 = .ok (.rdIcpidr3 ⟨0#2, .word, false, some 0⟩) := rfl

theorem test_decode_wrIcpidr3 :
    decode 0x00136FEC#32 7#32 = .ok (.wrIcpidr3 ⟨0#2, .word, true, some 1⟩ 7#32) := rfl

theorem test_decode_rdIccidr0 :
    decode 0x00110FF0#32 0#32 = .ok (.rdIccidr0 ⟨0#2, .word, false, some 0⟩) := rfl

theorem test_decode_wrIccidr0 :
    decode 0x00136FF0#32 7#32 = .ok (.wrIccidr0 ⟨0#2, .word, true, some 1⟩ 7#32) := rfl

theorem test_decode_rdIccidr1 :
    decode 0x00110FF4#32 0#32 = .ok (.rdIccidr1 ⟨0#2, .word, false, some 0⟩) := rfl

theorem test_decode_wrIccidr1 :
    decode 0x00136FF4#32 7#32 = .ok (.wrIccidr1 ⟨0#2, .word, true, some 1⟩ 7#32) := rfl

theorem test_decode_rdIccidr2 :
    decode 0x00110FF8#32 0#32 = .ok (.rdIccidr2 ⟨0#2, .word, false, some 0⟩) := rfl

theorem test_decode_wrIccidr2 :
    decode 0x00136FF8#32 7#32 = .ok (.wrIccidr2 ⟨0#2, .word, true, some 1⟩ 7#32) := rfl

theorem test_decode_rdIccidr3 :
    decode 0x00110FFC#32 0#32 = .ok (.rdIccidr3 ⟨0#2, .word, false, some 0⟩) := rfl

theorem test_decode_wrIccidr3 :
    decode 0x00136FFC#32 7#32 = .ok (.wrIccidr3 ⟨0#2, .word, true, some 1⟩ 7#32) := rfl

theorem test_decode_rdResF04 :
    decode 0x00110FCC#32 0#32 = .ok (.rdResF04 51#6 ⟨0#2, .word, false, some 0⟩) := rfl

theorem test_decode_wrResF04 :
    decode 0x00136FCC#32 7#32 = .ok (.wrResF04 51#6 ⟨0#2, .word, true, some 1⟩ 7#32) := rfl

theorem test_decode_rdIccicr :
    decode 0x00111000#32 0#32 = .ok (.rdIccicr ⟨0#2, .word, false, some 0, 0⟩) := rfl

theorem test_decode_wrIccicr :
    decode 0x00337000#32 7#32 = .ok (.wrIccicr ⟨0#2, .word, true, some 1, 1⟩ 7#32) := rfl

theorem test_decode_rdIccpmr :
    decode 0x00111004#32 0#32 = .ok (.rdIccpmr ⟨0#2, .word, false, some 0, 0⟩) := rfl

theorem test_decode_wrIccpmr :
    decode 0x00337004#32 7#32 = .ok (.wrIccpmr ⟨0#2, .word, true, some 1, 1⟩ 7#32) := rfl

theorem test_decode_rdIccbpr :
    decode 0x00111008#32 0#32 = .ok (.rdIccbpr ⟨0#2, .word, false, some 0, 0⟩) := rfl

theorem test_decode_wrIccbpr :
    decode 0x00337008#32 7#32 = .ok (.wrIccbpr ⟨0#2, .word, true, some 1, 1⟩ 7#32) := rfl

theorem test_decode_rdIcciar :
    decode 0x0011100C#32 0#32 = .ok (.rdIcciar ⟨0#2, .word, false, some 0, 0⟩) := rfl

theorem test_decode_wrIcciar :
    decode 0x0033700C#32 7#32 = .ok (.wrIcciar ⟨0#2, .word, true, some 1, 1⟩ 7#32) := rfl

theorem test_decode_rdIcceoir :
    decode 0x00111010#32 0#32 = .ok (.rdIcceoir ⟨0#2, .word, false, some 0, 0⟩) := rfl

theorem test_decode_wrIcceoir :
    decode 0x00337010#32 7#32 = .ok (.wrIcceoir ⟨0#2, .word, true, some 1, 1⟩ 7#32) := rfl

theorem test_decode_rdIccrpr :
    decode 0x00111014#32 0#32 = .ok (.rdIccrpr ⟨0#2, .word, false, some 0, 0⟩) := rfl

theorem test_decode_wrIccrpr :
    decode 0x00337014#32 7#32 = .ok (.wrIccrpr ⟨0#2, .word, true, some 1, 1⟩ 7#32) := rfl

theorem test_decode_rdIcchpir :
    decode 0x00111018#32 0#32 = .ok (.rdIcchpir ⟨0#2, .word, false, some 0, 0⟩) := rfl

theorem test_decode_wrIcchpir :
    decode 0x00337018#32 7#32 = .ok (.wrIcchpir ⟨0#2, .word, true, some 1, 1⟩ 7#32) := rfl

theorem test_decode_rdIccabpr :
    decode 0x0011101C#32 0#32 = .ok (.rdIccabpr ⟨0#2, .word, false, some 0, 0⟩) := rfl

theorem test_decode_wrIccabpr :
    decode 0x0033701C#32 7#32 = .ok (.wrIccabpr ⟨0#2, .word, true, some 1, 1⟩ 7#32) := rfl

theorem test_decode_rdRes20 :
    decode 0x0011103C#32 0#32 = .ok (.rdRes20 7#3 ⟨0#2, .word, false, some 0, 0⟩) := rfl

theorem test_decode_wrRes20 :
    decode 0x0033703C#32 7#32 = .ok (.wrRes20 7#3 ⟨0#2, .word, true, some 1, 1⟩ 7#32) := rfl

theorem test_decode_rdImp40 :
    decode 0x0011107C#32 0#32 = .ok (.rdImp40 15#4 ⟨0#2, .word, false, some 0, 0⟩) := rfl

theorem test_decode_wrImp40 :
    decode 0x0033707C#32 7#32 = .ok (.wrImp40 15#4 ⟨0#2, .word, true, some 1, 1⟩ 7#32) := rfl

theorem test_decode_rdImp80 :
    decode 0x00111080#32 0#32 = .ok (.rdImp80 0#4 ⟨0#2, .word, false, some 0, 0⟩) := rfl

theorem test_decode_wrImp80 :
    decode 0x00337080#32 7#32 = .ok (.wrImp80 0#4 ⟨0#2, .word, true, some 1, 1⟩ 7#32) := rfl

theorem test_decode_rdImpC0 :
    decode 0x001110CC#32 0#32 = .ok (.rdImpC0 3#2 ⟨0#2, .word, false, some 0, 0⟩) := rfl

theorem test_decode_wrImpC0 :
    decode 0x003370CC#32 7#32 = .ok (.wrImpC0 3#2 ⟨0#2, .word, true, some 1, 1⟩ 7#32) := rfl

theorem test_decode_rdIcciidr :
    decode 0x001110FC#32 0#32 = .ok (.rdIcciidr ⟨0#2, .word, false, some 0, 0⟩) := rfl

theorem test_decode_wrIcciidr :
    decode 0x003370FC#32 7#32 = .ok (.wrIcciidr ⟨0#2, .word, true, some 1, 1⟩ 7#32) := rfl

theorem test_decode_rdResD0 :
    decode 0x001110D0#32 0#32 = .ok (.rdResD0 0#2 ⟨0#2, .word, false, some 0, 0⟩) := rfl

theorem test_decode_wrResD0 :
    decode 0x003370D0#32 7#32 = .ok (.wrResD0 0#2 ⟨0#2, .word, true, some 1, 1⟩ 7#32) := rfl

theorem test_decode_rdResE0 :
    decode 0x001110F8#32 0#32 = .ok (.rdResE0 6#3 ⟨0#2, .word, false, some 0, 0⟩) := rfl

theorem test_decode_wrResE0 :
    decode 0x003370F8#32 7#32 = .ok (.wrResE0 6#3 ⟨0#2, .word, true, some 1, 1⟩ 7#32) := rfl

/-! ### Configurations and states of spec/95 section 0 -/

/-- CFG-SM. -/
def cfgSM : Config := { referenceConfig with spiDoubleAck := .forbidden, crossCpuAccess := false }

/-- CFG-S. -/
def cfgS : Config := { cfgSM with cpuNumber := 0#3 }

/-- CFG-M. -/
def cfgM : Config :=
  { cfgSM with secext := false, lspi := 0#5, pMask := .ff, spiDoubleAck := .allowed }

/-- CFG-U. -/
def cfgU : Config := { cfgM with cpuNumber := 0#3, spiDoubleAck := .forbidden }

/-- After reset. -/
def fresh (cfg : Config) : State := State.resetWith cfg

/-- Everything enabled, the masks at P_MASK, SPIs 40 (Secure, priority 0x20) and 41 (Non-secure,
priority 0xA0) enabled and targeting interfaces 0 and 1. -/
def ready (cfg : Config) : State :=
  { fresh cfg with
    gic :=
      { Gic.reset cfg with
        dcrS := true
        dcrNS := true
        nsb := slotRange 265 265
        en := cfg.enReset ||| slotRange 264 265
        pri := putByte (putByte {} 264 0x20#8) 265 0xA0#8
        tgt := putByte (putByte {} 264 3#8) 265 3#8
        ifcs := Vector.replicate 8
          { CpuInterface.reset cfg with enableS := true, enableNS := true, pmr := pMask cfg } } }

/-- The latches of SPIs lo to hi set. -/
def latched (lo hi : Nat) (s : State) : State := s.setLatch (slotRange (lo + 224) (hi + 224))

/-- AS(c) as given. -/
def activeOn (c : Cpu) (l : List ActiveEntry) (s : State) : State :=
  s.withIfc c { s.ifc c with active := l }

/-- PMR(0) as given. -/
def masked (v : Byte) (s : State) : State := s.withIfc 0 { s.ifc 0 with pmr := v }

/-- AckCtl(0) and FIQEn(0) as given. -/
def controls (ackCtl fiqEn : Bool) (s : State) : State :=
  s.withIfc 0 { s.ifc 0 with ackCtl := ackCtl, fiqEn := fiqEn }

/-- CFGSDISABLE HIGH. -/
def lockedDown (s : State) : State := { s with cfgsdisable := true }

/-- The line of SPI n HIGH. -/
def lineHigh (n : Nat) (s : State) : State := { s with line := slotRange (n + 224) (n + 224) }

/-- The state after an access. -/
def put (aw data : Word) (s : State) : State :=
  match access aw data s with
  | .next t => t
  | _ => s

/-- The value a read access returns. -/
def get (aw : Word) (s : State) : Option Nat :=
  match access aw 0#32 s with
  | .next t => some t.gic.readData.toNat
  | _ => none

/-- The state after one input or internal step. -/
def after (x : Input) (s : State) : State :=
  match step { s with inputs := [x] } with
  | .next t => t
  | _ => s

/-! ### Access mechanics (group 20/30) -/

/-- M1, M3 to M6: reserved and RAZ/WI addresses read as zero. -/
theorem test_reserved_reads :
    get 0x00110010#32 (ready cfgU) = some 0 ∧ get 0x001107FC#32 (ready cfgU) = some 0
      ∧ get 0x00110BFC#32 (ready cfgU) = some 0 ∧ get 0x00110D00#32 (ready cfgU) = some 0
      ∧ get 0x00110E00#32 (ready cfgU) = some 0 ∧ get 0x00110F04#32 (ready cfgU) = some 0
      ∧ get 0x00111020#32 (ready cfgU) = some 0 ∧ get 0x00111040#32 (ready cfgU) = some 0
      ∧ get 0x001110D0#32 (ready cfgU) = some 0 := by decide +kernel

/-- M2, M18, D7, G21, H20: writes to reserved and read-only registers are ignored. -/
theorem test_ignored_writes :
    access 0x00112380#32 0xFFFFFFFF#32 (ready cfgU) = .next (ready cfgU)
      ∧ access 0x00112304#32 0xFFFFFFFF#32 (ready cfgU) = .next (ready cfgU)
      ∧ access 0x00112004#32 0xFFFFFFFF#32 (ready cfgU) = .next (ready cfgU)
      ∧ access 0x00112008#32 0xFFFFFFFF#32 (ready cfgU) = .next (ready cfgU)
      ∧ access 0x00112FE8#32 0xFFFFFFFF#32 (ready cfgU) = .next (ready cfgU)
      ∧ access 0x0011300C#32 0x28#32 (latched 40 40 (ready cfgU)) = .next (latched 40 40 (ready cfgU))
      ∧ access 0x001130FC#32 0#32 (ready cfgU) = .next (ready cfgU) :=
  ⟨rfl, rfl, rfl, rfl, rfl, rfl, rfl⟩

/-- M10, M11, M12, M14: unsupported sizes and alignments raise UNPREDICTABLE. -/
theorem test_unpredictable_sizes :
    (put 0x00100104#32 0#32 (fresh cfgU)).unpred = true ∧ (put 0x0010100C#32 0#32 (fresh cfgU)).unpred = true
      ∧ (put 0x00108428#32 0#32 (fresh cfgU)).unpred = true
      ∧ (put 0x00110402#32 0#32 (fresh cfgU)).unpred = true := ⟨rfl, rfl, rfl, rfl⟩

/-- M16: the interface of another processor, with CROSS_CPU_ACCESS = FALSE and TRUE. -/
theorem test_cross_cpu :
    access 0x0031100C#32 0#32 (fresh cfgM) = .refused .crossCpuAccess
      ∧ get 0x00311000#32 (fresh { cfgM with crossCpuAccess := true }) = some 0 := by
  refine ⟨rfl, by decide +kernel⟩

/-! ### Distributor control (group 40) -/

/-- D1, D2, D3: the two copies of ICDDCR. -/
theorem test_icddcr_banked :
    get 0x00110000#32 (fresh cfgU) = some 0
      ∧ get 0x00110000#32 (put 0x00112000#32 0xFFFFFFFF#32 (fresh cfgU)) = some 1
      ∧ get 0x00110000#32 (put 0x00116000#32 1#32 (fresh cfgS)) = some 0
      ∧ get 0x00114000#32 (put 0x00116000#32 1#32 (fresh cfgS)) = some 1 := by decide +kernel

/-- D4: lockdown blocks the Secure copy only. -/
theorem test_icddcr_locked :
    (put 0x00112000#32 1#32 (lockedDown (fresh cfgS))).gic.dcrS = false
      ∧ (put 0x00116000#32 1#32 (lockedDown (fresh cfgS))).gic.dcrNS = true := by decide +kernel

/-- D5, D6: ICDICTR. -/
theorem test_icdictr :
    get 0x00110004#32 (fresh cfgU) = some 0x1 ∧ get 0x00110004#32 (fresh cfgM) = some 0x21
      ∧ get 0x00110004#32 (fresh cfgS) = some 0x1401 ∧ get 0x00114004#32 (fresh cfgSM) = some 0x1421
      ∧ get 0x00110004#32 (fresh { cfgS with cpuNumber := 3#3, itLines := 3#5, lspi := 8#5 })
        = some 0x4463 := by decide +kernel

/-- D8, H20: the implementer registers of an ARM implementation. -/
theorem test_implementer : (get 0x00110008#32 (fresh cfgU)).map (· % 0x1000) = some 0x43B
    ∧ get 0x001110FC#32 (fresh cfgU) = some 0x3901043B := by decide +kernel

/-- D9, D10, D11, D15: ICDISR. -/
theorem test_icdisr :
    get 0x00110084#32 (put 0x00112084#32 0x200#32 (fresh cfgS)) = some 0x200
      ∧ get 0x00114084#32 (put 0x00112084#32 0x200#32 (fresh cfgS)) = some 0
      ∧ nsbOf (put 0x00116084#32 0xFFFFFFFF#32 (fresh cfgS)) 0 41 = false
      ∧ nsbOf (put 0x00112084#32 0xFFFFFFFF#32 (fresh cfgU)) 0 41 = false
      ∧ get 0x00110084#32 (put 0x00112084#32 0x00010000#32 (fresh cfgS)) = some 0 := by
  decide +kernel

/-- D12, D14, D16: a busy interrupt, and locked ones. -/
theorem test_icdisr_limits :
    (put 0x00112084#32 0x200#32 (latched 41 41 (fresh cfgS))).unpred = true
      ∧ (put 0x00112084#32 0#32 (latched 41 41 (fresh cfgS))).unpred = false
      ∧ nsbOf (put 0x00112084#32 0x5#32 (lockedDown (fresh cfgS))) 0 32 = false
      ∧ nsbOf (put 0x00112084#32 0x5#32 (lockedDown (fresh cfgS))) 0 34 = true := by decide +kernel

/-! ### Enable, pending and active bits (group 41) -/

/-- E1, E2, E4, E9: ICDISER. -/
theorem test_icdiser :
    get 0x00110100#32 (fresh cfgU) = some 0x0000FFFF
      ∧ get 0x00110100#32 (put 0x00112100#32 0xFFFFFFFF#32 (fresh cfgU)) = some 0xF800FFFF
      ∧ get 0x00110104#32 (put 0x00112104#32 0xFFFFFFFF#32 (fresh cfgU)) = some 0xFF00FFFF
      ∧ get 0x00110104#32 (put 0x00112104#32 5#32 (lockedDown (fresh cfgS))) = some 4 := by
  decide +kernel

/-- E7: what a Non-secure and a Secure read see. -/
theorem test_icdiser_views : get 0x00114104#32 (ready cfgS) = some 0x200
    ∧ get 0x00110104#32 (ready cfgS) = some 0x300 := by decide +kernel

/-- E3, E6, E8: ICDICER. -/
theorem test_icdicer :
    get 0x00110180#32 (put 0x00112180#32 0xFFFFFFFF#32 (fresh cfgU)) = some 0x0000FFFF
      ∧ get 0x00110104#32 (put 0x00112184#32 0x100#32 (ready cfgU)) = some 0x200
      ∧ get 0x00110104#32 (put 0x00116184#32 0x300#32 (ready cfgS)) = some 0x100 := by decide +kernel

/-- E10, E12, E14: ICDISPR. -/
theorem test_icdispr :
    get 0x00110204#32 (put 0x00112204#32 0x100#32 (fresh cfgU)) = some 0x100
      ∧ get 0x00110200#32 (put 0x00112200#32 0x0000FFFF#32 (fresh cfgU)) = some 0
      ∧ get 0x00110200#32 (put 0x00112200#32 0x08000000#32 (fresh cfgU)) = some 0x08000000 := by
  decide +kernel

/-- E15, E16: the line of a level-sensitive interrupt, with the Distributor enabled and disabled. -/
theorem test_icdispr_line :
    get 0x00110204#32 (put 0x00112284#32 0x100#32 (lineHigh 40 (ready cfgU))) = some 0x100
      ∧ get 0x00110204#32 (lineHigh 40 (fresh cfgU)) = some 0
      ∧ get 0x00110204#32 (latched 40 40 (fresh cfgU)) = some 0x100 := by decide +kernel

/-- E11, E13: ICDICPR clears a latch, and nothing of an SGI. -/
theorem test_icdicpr :
    get 0x00110284#32 (put 0x00112284#32 0x100#32 (latched 40 41 (fresh cfgU))) = some 0x200
      ∧ get 0x00110280#32 (put 0x00112280#32 0xFFFF#32 ((fresh cfgU).setSgip (8#1024 <<< 21)))
        = some 8 := by decide +kernel

/-- E19, E20: ICDABR shows an SPI to every processor, a private interrupt to its own. -/
theorem test_icdabr :
    get 0x00130304#32 (activeOn 0 [⟨40, 0, 0x20#8⟩] (fresh cfgM)) = some 0x100
      ∧ get 0x00110300#32 (activeOn 0 [⟨3, 1, 0x40#8⟩] (fresh cfgM)) = some 8
      ∧ get 0x00130300#32 (activeOn 0 [⟨3, 1, 0x40#8⟩] (fresh cfgM)) = some 0 := by decide +kernel

/-! ### Priorities, targets and trigger modes (group 42) -/

/-- F1, M8, M9, M13: the bytes of ICDIPR10. -/
theorem test_icdipr_bytes :
    let s := put 0x00112428#32 0x44332211#32 (fresh { cfgU with halfword := .bytePairs })
    get 0x0010042A#32 s = some 0x33 ∧ get 0x0010842A#32 s = some 0x4433
      ∧ get 0x00110428#32 (put 0x00102429#32 0x80#32 s) = some 0x44338011 := by decide +kernel

/-- F2 to F9: the two views of a priority. -/
theorem test_icdipr_views :
    let s := put 0x00102428#32 0xA7#32 (ready cfgS)
    get 0x00100428#32 s = some 0xA0
      ∧ get 0x00104429#32 (put 0x00106429#32 0xFF#32 s) = some 0xF0
      ∧ get 0x00100429#32 (put 0x00106429#32 0x40#32 s) = some 0xA0
      ∧ get 0x00114428#32 (put 0x00116428#32 0x40404040#32 s) = some 0x4000
      ∧ get 0x00110428#32 (put 0x00116428#32 0x40404040#32 s) = some 0xA0A0 := by decide +kernel

/-- F14, F15, F16: ICDIPTR of the private interrupts. -/
theorem test_icdiptr_private :
    get 0x00110800#32 (fresh cfgM) = some 0x01010101 ∧ get 0x00130800#32 (fresh cfgM) = some 0x02020202
      ∧ get 0x00110810#32 (fresh cfgM) = some 0 ∧ get 0x00110818#32 (fresh cfgM) = some 0x01000000
      ∧ get 0x00110800#32 (put 0x00112800#32 0xFFFFFFFF#32 (fresh cfgM)) = some 0x01010101 := by
  decide +kernel

/-- F12, F13: ICDIPTR of an SPI. -/
theorem test_icdiptr_spi :
    get 0x00100828#32 (put 0x00102828#32 0xFF#32 (fresh cfgU)) = some 0
      ∧ get 0x00100828#32 (put 0x00102828#32 0xFF#32 (fresh cfgM)) = some 3 := by decide +kernel

/-- F18, F19, F20, F21, F22, F25: ICDICFR. -/
theorem test_icdicfr :
    get 0x00110C00#32 (put 0x00112C00#32 0#32 (fresh cfgU)) = some 0xAAAAAAAA
      ∧ get 0x00110C04#32 (put 0x00112C04#32 0xFFFFFFFF#32 (fresh cfgU)) = some 0
      ∧ get 0x00110C04#32 (fresh { cfgU with cfgReset := slotRange 27 27 }) = some 0x00800000
      ∧ get 0x00110C08#32 (put 0x00112C08#32 0x00030000#32 (fresh cfgU)) = some 0x00020000
      ∧ get 0x00110C0C#32 (put 0x00112C0C#32 0xAAAAAAAA#32 (fresh cfgU)) = some 0xAAAA0000 := by
  decide +kernel

/-- F23, F24: changing the mode of an enabled interrupt. -/
theorem test_icdicfr_enabled :
    (put 0x00112C08#32 0x00020000#32 (ready cfgU)).unpred = true
      ∧ (put 0x00112C08#32 0#32 (ready cfgU)).unpred = false := by decide +kernel

/-! ### SGIs and identification (group 43) -/

/-- SGI n from src is pending on interface c after a write of ICDSGIR. -/
def sgiAfter (aw data : Word) (s : State) (c : Cpu) (n : Nat) (src : Cpu) : Bool :=
  sgipOf (put aw data s) c n src

/-- G1, G2, G3, G7, M15: who sends, and the target list filter. -/
theorem test_icdsgir_targets :
    sgiAfter 0x00132F00#32 0x00010003#32 (fresh cfgM) 0 3 1 = true
      ∧ sgiAfter 0x00132F00#32 0x00010003#32 (fresh cfgM) 0 3 0 = false
      ∧ sgiAfter 0x00112F00#32 0x01000005#32 (fresh cfgM) 1 5 0 = true
      ∧ sgiAfter 0x00112F00#32 0x01000005#32 (fresh cfgM) 0 5 0 = false
      ∧ sgiAfter 0x00112F00#32 0x02FF0005#32 (fresh cfgM) 0 5 0 = true
      ∧ sgiAfter 0x00112F00#32 0x02FF0005#32 (fresh cfgM) 1 5 0 = false
      ∧ sgiAfter 0x00112F00#32 0x00FF0003#32 (fresh cfgM) 1 3 0 = true
      ∧ put 0x00012F00#32 0x00010003#32 (fresh cfgM) = fresh cfgM
      ∧ (put 0x00112F00#32 0x03000000#32 (fresh cfgM)).unpred = true
      ∧ (put 0x00112F00#32 0x00010010#32 (fresh cfgM)).unpred = true := by decide +kernel

/-- SGI 3 is Non-secure on interface 1. -/
def sgi3NonSecure : State := (fresh cfgSM).setNsb (slotRange 35 35)

/-- G13 to G19: Table 4-19. -/
theorem test_icdsgir_security :
    sgiAfter 0x00112F00#32 0x00020003#32 (fresh cfgSM) 1 3 0 = true
      ∧ sgiAfter 0x00112F00#32 0x00020003#32 sgi3NonSecure 1 3 0 = false
      ∧ sgiAfter 0x00112F00#32 0x00028003#32 (fresh cfgSM) 1 3 0 = false
      ∧ sgiAfter 0x00112F00#32 0x00028003#32 sgi3NonSecure 1 3 0 = true
      ∧ sgiAfter 0x00116F00#32 0x00020003#32 (fresh cfgSM) 1 3 0 = false
      ∧ sgiAfter 0x00116F00#32 0x00020003#32 sgi3NonSecure 1 3 0 = true
      ∧ sgiAfter 0x00112F00#32 0x00030003#32 sgi3NonSecure 0 3 0 = true := by decide +kernel

/-- G22, S13: the identification registers. -/
theorem test_identification :
    get 0x00110FD0#32 (fresh cfgU) = some 0x04 ∧ get 0x00110FD4#32 (fresh cfgU) = some 0
      ∧ get 0x00110FD8#32 (fresh cfgU) = some 0 ∧ get 0x00110FDC#32 (fresh cfgU) = some 0
      ∧ get 0x00110FE0#32 (fresh cfgU) = some 0x90 ∧ get 0x00110FE4#32 (fresh cfgU) = some 0xB3
      ∧ get 0x00110FE8#32 (fresh cfgU) = some 0x1B ∧ get 0x00110FEC#32 (fresh cfgU) = some 0
      ∧ get 0x00110FF0#32 (fresh cfgU) = some 0x0D ∧ get 0x00110FF4#32 (fresh cfgU) = some 0xF0
      ∧ get 0x00110FF8#32 (fresh cfgU) = some 0x05 ∧ get 0x00110FFC#32 (fresh cfgU) = some 0xB1 := by
  decide +kernel

/-! ### CPU interfaces (group 44) -/

/-- H2 to H5: ICCICR. -/
theorem test_iccicr :
    get 0x00111000#32 (put 0x00113000#32 0xFFFFFFFF#32 (fresh cfgU)) = some 1
      ∧ get 0x00111000#32 (put 0x00113000#32 0xB#32 (fresh cfgS)) = some 0xB
      ∧ get 0x00115000#32 (put 0x00113000#32 0xB#32 (fresh cfgS)) = some 1
      ∧ get 0x00111000#32 (put 0x00117000#32 0xFFFFFFFE#32 (put 0x00113000#32 0xB#32 (fresh cfgS)))
        = some 9
      ∧ get 0x00111000#32 (put 0x00113000#32 0x1F#32 (lockedDown (fresh cfgS))) = some 2 := by
  decide +kernel

/-- H6 to H10: ICCPMR. -/
theorem test_iccpmr :
    get 0x00111004#32 (put 0x00113004#32 0x1FF#32 (fresh cfgU)) = some 0xFF
      ∧ get 0x00111004#32 (put 0x00117004#32 0xFF#32 (fresh cfgS)) = some 0
      ∧ get 0x00115004#32 (put 0x00113004#32 0xFF#32 (fresh cfgS)) = some 0xF0
      ∧ get 0x00111004#32 (put 0x00117004#32 0x80#32 (ready cfgS)) = some 0xC0
      ∧ get 0x00115004#32 (masked 0x40#8 (fresh cfgS)) = some 0 := by decide +kernel

/-- H11 to H15: ICCBPR and ICCABPR. -/
theorem test_binary_points :
    get 0x00111008#32 (put 0x00113008#32 0#32 (fresh { cfgU with minBinaryPoint := 2#2 })) = some 2
      ∧ get 0x00111008#32 (put 0x00113008#32 0xFFFFFFFF#32 (fresh cfgU)) = some 7
      ∧ get 0x0011101C#32 (put 0x00117008#32 3#32 (fresh cfgS)) = some 3
      ∧ get 0x00111008#32 (put 0x00117008#32 3#32 (fresh cfgS)) = some 0
      ∧ get 0x00115008#32 (put 0x0011301C#32 5#32 (fresh cfgS)) = some 5
      ∧ get 0x0011101C#32 (put 0x0011301C#32 5#32 (fresh cfgU)) = some 0 := by decide +kernel

/-- H21 to H25, H28: Table 4-30. -/
theorem test_icciar :
    get 0x0011500C#32 (latched 41 41 (ready cfgS)) = some 0x29
      ∧ get 0x0011100C#32 (controls true false (latched 41 41 (ready cfgS))) = some 0x29
      ∧ get 0x0011100C#32 (latched 41 41 (ready cfgS)) = some 0x3FE
      ∧ get 0x0011500C#32 (latched 40 40 (ready cfgS)) = some 0x3FF
      ∧ get 0x0011100C#32 (latched 40 40 (ready cfgS)) = some 0x28
      ∧ get 0x0011500C#32 (latched 40 41 (ready cfgS)) = some 0x3FF
      ∧ get 0x0011100C#32 (masked 0x20#8 (latched 40 40 (ready cfgS))) = some 0x3FF
      ∧ get 0x0011100C#32 (masked 0xA0#8 (latched 41 41 (ready cfgS))) = some 0x3FF := by
  decide +kernel

/-- K16: what an acknowledge does to the latch, the active list and the window. -/
theorem test_icciar_state :
    let t := put 0x0011100C#32 0#32 (latched 40 40 (ready cfgM))
    latchOf t 0 40 = false ∧ (t.ifc 0).active = [⟨40, 0, 0x20#8⟩] ∧ (t.ifc 1).active = []
      ∧ (t.ifc 1).ackWindow.getLsbD 264 = true ∧ (t.ifc 0).ackWindow.getLsbD 264 = false := by
  decide +kernel

/-- AS(0) of CFG-U with one SPI active. -/
def one : List ActiveEntry := [⟨40, 0, 0x20#8⟩]

/-- H36 to H43: writes of ICCEOIR without the Security Extensions. -/
theorem test_icceoir :
    ((put 0x00113010#32 0xFFFFE028#32 (activeOn 0 one (fresh cfgU))).ifc 0).active = []
      ∧ (put 0x00113010#32 0x3FF#32 (fresh cfgU)).unpred = false
      ∧ (put 0x00113010#32 0x28#32 (fresh cfgU)).unpred = true
      ∧ (put 0x00113010#32 0x428#32 (activeOn 0 one (fresh cfgU))).unpred = true
      ∧ ((put 0x00113010#32 0x403#32 (activeOn 0 [⟨3, 1, 0#8⟩] (fresh cfgM))).ifc 0).active = []
      ∧ (put 0x00113010#32 0x3#32 (activeOn 0 [⟨3, 1, 0#8⟩] (fresh cfgM))).unpred = true
      ∧ (put 0x00113010#32 0x23#32
        (activeOn 0 [⟨35, 0, 0x14#8⟩, ⟨33, 0, 0xC#8⟩] (fresh cfgU))).unpred = true
      ∧ ((put 0x00113010#32 0x23#32 (activeOn 0 [⟨35, 0, 0x14#8⟩, ⟨33, 0, 0xC#8⟩]
        (fresh { cfgU with eoiOrderViolation := .removeMatching }))).ifc 0).active
          = [⟨33, 0, 0xC#8⟩] := by decide +kernel

/-- H44 to H47: Table 4-32. -/
theorem test_icceoir_security :
    ((put 0x00117010#32 0x28#32 (activeOn 0 one (ready cfgS))).ifc 0).active = one
      ∧ ((put 0x00113010#32 0x29#32 (activeOn 0 [⟨41, 0, 0xA0#8⟩] (ready cfgS))).ifc 0).active
        = [⟨41, 0, 0xA0#8⟩]
      ∧ ((put 0x00113010#32 0x29#32
        (controls true false (activeOn 0 [⟨41, 0, 0xA0#8⟩] (ready cfgS)))).ifc 0).active = []
      ∧ ((put 0x00117010#32 0x29#32 (activeOn 0 [⟨41, 0, 0xA0#8⟩] (ready cfgS))).ifc 0).active
        = [] := by decide +kernel

/-- H18, H19: ICCRPR with something active. -/
theorem test_iccrpr :
    let s := activeOn 0 [⟨40, 0, 0x20#8⟩, ⟨33, 0, 0x08#8⟩] (fresh cfgS)
    let t := activeOn 0 [⟨41, 0, 0xA0#8⟩] (fresh cfgS)
    get 0x00111014#32 s = some 8 ∧ get 0x00115014#32 s = some 0
      ∧ get 0x00115014#32 t = some 0x40 ∧ get 0x00111014#32 t = some 0xA0 := by decide +kernel

/-- H21, H23, H27, H29 to H32: ICCHPIR. -/
theorem test_icchpir :
    get 0x00115018#32 (latched 41 41 (ready cfgS)) = some 0x29
      ∧ get 0x00111018#32 (latched 41 41 (ready cfgS)) = some 0x3FE
      ∧ get 0x00111018#32 (masked 0xA0#8 (latched 41 41 (ready cfgS))) = some 0x3FF
      ∧ get 0x00111018#32 (masked 0x10#8 (latched 40 40 (ready cfgU))) = some 0x28
      ∧ get 0x00111018#32 (masked 0x10#8 (latched 40 40 (ready { cfgU with hpirPriorityFilter := true })))
        = some 0x3FF
      ∧ get 0x00111018#32 (activeOn 0 one (latched 40 40 (ready cfgU))) = some 0x3FF := by
  decide +kernel

/-! ### Inputs, outputs and internal steps (group 45) -/

/-- J1 to J6: edges and levels. -/
theorem test_lines :
    let e := { cfgU with cfgReset := slotRange 264 264 }
    latchOf (after (.lineRise 0 40) (ready e)) 0 40 = true
      ∧ latchOf (after (.lineRise 0 40) (fresh e)) 0 40 = false
      ∧ latchOf (after (.lineFall 0 40) (latched 40 40 (lineHigh 40 (ready e)))) 0 40 = true
      ∧ latchOf (after (.lineRise 0 40) (ready cfgU)) 0 40 = false
      ∧ pend (after (.lineRise 0 40) (ready cfgU)) 0 40 = true
      ∧ pend (after (.lineFall 0 40) (lineHigh 40 (ready cfgU))) 0 40 = false
      ∧ latchOf (put 0x00112000#32 1#32 (lineHigh 40
        (fresh { e with edgeHighAtEnable := .edge }))) 0 40 = true := by decide +kernel

/-- J8, J10, J11, J12: EVALUATE. -/
theorem test_evaluate :
    ((after (.evaluate 0) (latched 40 40 (ready cfgU))).ifc 0).irq = true
      ∧ ((after (.evaluate 0) (controls false true (latched 40 41 (ready cfgS)))).ifc 0).fiq = true
      ∧ ((after (.evaluate 0) (controls false true (latched 40 41 (ready cfgS)))).ifc 0).irq = false
      ∧ ((after (.evaluate 0) (controls false true (latched 41 41 (ready cfgS)))).ifc 0).irq = true
      ∧ ((after (.evaluate 0) (latched 40 40 (ready cfgS))).ifc 0).irq = true := by decide +kernel

/-- The legacy inputs asserted, with pass-through. -/
def legacy : State :=
  { fresh { cfgS with passThrough := 1#8 } with legacyIrq := 1#8, legacyFiq := 1#8 }

/-- The pins after a Secure write of ICCICR. -/
def pins (data : Word) : Bool × Bool :=
  (irqPin (put 0x00113000#32 data legacy) 0, fiqPin (put 0x00113000#32 data legacy) 0)

/-- J15 to J22: Table 4-26. -/
theorem test_pass_through :
    pins 0x0#32 = (true, true) ∧ pins 0x2#32 = (false, true) ∧ pins 0x1#32 = (false, true)
      ∧ pins 0x3#32 = (false, true) ∧ pins 0x8#32 = (true, true) ∧ pins 0xA#32 = (false, true)
      ∧ pins 0x9#32 = (true, false) ∧ pins 0xB#32 = (false, false) := by decide +kernel

/-- J14: RESET. -/
theorem test_reset :
    let t := after .reset (activeOn 0 one (latched 40 40 (lineHigh 42 (ready cfgU))))
    t.gic = Gic.reset cfgU ∧ lineOf t 0 42 = true ∧ pend t 0 42 = false := by decide +kernel

/-- R391: a delayed write, then APPLY_WRITE. -/
theorem test_delayed_write :
    let s := put 0x00112000#32 1#32 (fresh { cfgU with distWriteLatency := .delayed })
    s.gic.dcrS = false ∧ s.gic.wq.length = 1 ∧ (after .applyWrite s).gic.dcrS = true
      ∧ (after .applyWrite s).gic.wq = [] := by decide +kernel

/-! ### Priorities (group 60) -/

/-- The table of GIC_PriorityMask. -/
theorem test_priority_mask :
    (List.range 8).map (fun n => (gicPriorityMask cfgU n false).toNat)
        = [0xFE, 0xFC, 0xF8, 0xF0, 0xE0, 0xC0, 0x80, 0x00]
      ∧ (List.range 8).map (fun n => (gicPriorityMask cfgU n true).toNat)
        = [0xFF, 0xFE, 0xFC, 0xF8, 0xF0, 0xE0, 0xC0, 0x80] := by decide +kernel

/-- Priority `p` for SPI 42 with PMR 0xF0, BPR_S and an active interrupt of priority 0x14. -/
def preempts (bpr : BitVec 3) (p : Byte) : Bool :=
  let s := (ready cfgU).setPri (putByte {} 266 p)
  sufficientPriority
    (s.withIfc 0 { s.ifc 0 with pmr := 0xF0#8, bprS := bpr, active := [⟨50, 0, 0x14#8⟩] }) 0 42

/-- K5 to K8. -/
theorem test_preemption : preempts 3#3 0x10#8 = false ∧ preempts 3#3 0x0C#8 = true
    ∧ preempts 1#3 0x10#8 = true ∧ preempts 7#3 0x00#8 = false := by decide +kernel

/-! ### Witnesses: a state and operands that meet the hypotheses of each obligation -/

/-- A Secure word access of processor 0 to the Distributor. -/
abbrev dArgs : DistArgs := ⟨0#2, .word, false, some 0⟩

/-- A Non-secure one. -/
abbrev dArgsNs : DistArgs := ⟨0#2, .word, true, some 0⟩

/-- A Secure word access of processor 0 to its CPU interface. -/
abbrev cArgs : CpuArgs := ⟨0#2, .word, false, some 0, 0⟩

/-- A Non-secure one. -/
abbrev cArgsNs : CpuArgs := ⟨0#2, .word, true, some 0, 0⟩

theorem distReady (cfg : Config) : DistWordReady (fresh cfg) dArgs := by
  refine ⟨rfl, ?_, rfl, rfl⟩
  unfold requesterExists sourceId
  by_cases h : ncpu (fresh cfg).cfg = 1 <;> simp [h, cpuExists, ncpu_pos]

theorem distReadyNs (cfg : Config) : DistWordReady (fresh cfg) dArgsNs := by
  obtain ⟨h1, h2, -, -⟩ := distReady cfg
  exact ⟨h1, h2, rfl, rfl⟩

theorem witness_DecodeOfEncode : (Instr.wrIcdipr 254#8 ⟨3#2, .byte, true, some 7⟩ 9#32).wellFormed = true
    ∧ (Instr.rdResE0 6#3 ⟨0#2, .word, false, none, 7⟩).wellFormed = true := by decide

theorem witness_EncodeOfDecode :
    decode 0x00112000#32 1#32 = .ok (.wrIcddcr dArgs 1#32)
      ∧ (0x00112000#32 : Word).getLsbD 20 = true ∧ (accessInfo (.wrIcddcr dArgs 1#32)).write = true :=
  ⟨rfl, by decide, rfl⟩

theorem witness_StepRunsDecodedInstruction :
    ({ fresh cfgU with inputs := [.access 0x00112000#32 1#32] } : State).inputs
        = .access 0x00112000#32 1#32 :: []
      ∧ decode 0x00112000#32 1#32 = .ok (.wrIcddcr dArgs 1#32)
      ∧ (Instr.wrIcddcr dArgs 1#32).wellFormed = true
      ∧ decodeTableWord 64 0x0000000100112000 = some (.wrIcddcr dArgs 1#32) :=
  ⟨rfl, rfl, by decide, by decide +kernel⟩

/-- A Secure word read of the memory map. -/
def reading (addr : Nat) (req : Option Cpu) : MemAccess := ⟨addr, false, .word, false, req, 0#32⟩

/-- An address of every clause: the Distributor's ends, the requester's own interface, the only one
that holds the address, several foreign ones, and none, just above the two blocks. -/
theorem witness_StepRunsDecodedInstruction_mem :
    (0x1000 ≤ 0x1000 ∧ cfgM.distBase = 0x1000 ∧ inDistBlock cfgM 0x1FFF = true)
      ∧ (inDistBlock cfgM 0x20FF = false ∧ inCpuBlock cfgM 1 0x20FF = true
        ∧ sourceId cfgM (some 1) = some 1)
      ∧ (let cfg := { cfgM with cpuBase := #v[0x2000, 0x2100, 0, 0, 0, 0, 0, 0] };
        inCpuBlock cfg 1 0x2100 = true ∧ inCpuBlock cfg 0 0x2100 = false)
      ∧ (inCpuBlock cfgM 0 0x2000 = true ∧ inCpuBlock cfgM 1 0x2000 = true
        ∧ sourceId cfgM none = none)
      ∧ memAccessWord cfgM (reading 0x2000 none) = none
      ∧ memAccessWord cfgM (reading 0x2100 (some 0)) = none
      ∧ memAccessWord cfgM (reading 0x0FFF (some 0)) = none := by
  decide +kernel

/-- The four examples of R120, by address. -/
theorem test_mem_access_word :
    memAccessWord cfgM ⟨0x1000, true, .word, false, some 0, 1#32⟩ = some 0x00112000#32
      ∧ memAccessWord cfgM (reading 0x200C (some 0)) = some 0x0011100C#32
      ∧ memAccessWord cfgM ⟨0x200C, false, .word, true, some 1, 0#32⟩ = some 0x0033500C#32
      ∧ memAccessWord cfgM ⟨0x1428, true, .byte, false, some 0, 7#32⟩ = some 0x00102428#32 := by
  decide +kernel

/-- R9(a) and the memory map hold of the four configurations of the test vectors. -/
theorem test_config_wf :
    ([cfgSM, cfgS, cfgM, cfgU].all fun cfg => configWf cfg && memoryMapWf cfg) = true
      ∧ configWf { cfgU with alwaysSecure := 1#1244 } = false
      ∧ alwaysSecure { cfgU with alwaysSecure := 1#1244 } 0 0 = false
      ∧ alwaysSecure { cfgS with alwaysSecure := 1#1244 } 0 0 = true := by decide +kernel

/-- Accepted, and one of each ground on which an access is not. -/
theorem witness_NoAccessFaults :
    Accepted (fresh cfgM) (.rdIcciar cArgs)
      ∧ ¬ Accepted (fresh cfgM) (.rdIcddcr ⟨0#2, .word, false, some 2⟩)
      ∧ ¬ Accepted (fresh { cfgM with crossCpuAccess := true }) (.rdIcciar ⟨0#2, .word, false, some 0, 2⟩)
      ∧ ¬ Accepted (fresh cfgM) (.rdIcciar ⟨0#2, .word, false, some 0, 1⟩) := by
  simp only [Accepted, accessInfo, Option.some.injEq, forall_eq', reduceCtorEq, false_implies,
    implies_true, and_true]
  decide +kernel

/-- Each ground of an unsupported access: misaligned word, misaligned and unsupported halfword, byte. -/
theorem witness_UnsupportedSizeIsUnpredictable :
    (fresh cfgU).unpred = false ∧ Immediate (fresh cfgU)
      ∧ Accepted (fresh cfgU) (.rdIcdipr 0#8 ⟨2#2, .word, false, some 0⟩)
      ∧ Unsupported (fresh cfgU) (.rdIcdipr 0#8 ⟨2#2, .word, false, some 0⟩)
      ∧ Unsupported (fresh cfgU) (.rdIcdipr 0#8 ⟨1#2, .halfword, false, some 0⟩)
      ∧ Unsupported (fresh cfgU) (.rdIcdipr 0#8 ⟨0#2, .halfword, false, some 0⟩)
      ∧ Unsupported (fresh cfgU) (.wrIccicr ⟨0#2, .byte, false, some 0, 0⟩ 0#32) := by
  refine ⟨rfl, rfl, ⟨by decide +kernel, by simp [accessInfo]⟩, ?_, ?_, ?_, ?_⟩ <;>
    (simp only [Unsupported, accessInfo]; decide +kernel)

/-- Where writes are delayed: a read and a CPU interface write, which are not, and a byte write of ICDDCR
that waits in WQ. -/
theorem witness_UnsupportedSizeIsUnpredictable_delayed :
    let s := put 0x00102000#32 1#32 (fresh { cfgU with distWriteLatency := .delayed })
    s.unpred = false ∧ ¬ Immediate s
      ∧ (accessInfo (.rdIcddcr ⟨0#2, .byte, false, some 0⟩)).write = false
      ∧ (accessInfo (.wrIccicr ⟨0#2, .byte, false, some 0, 0⟩ 0#32)).ifc ≠ none
      ∧ s.gic.wq = .wrIcddcr ⟨0#2, .byte, false, some 0⟩ 1#32 :: []
      ∧ Unsupported s (.wrIcddcr ⟨0#2, .byte, false, some 0⟩ 1#32) ∧ s.inputs = []
      ∧ ({ s with inputs := [.applyWrite] } : State).inputs = .applyWrite :: [] := by
  refine ⟨rfl, ?_, rfl, by decide, rfl, .inr (.inr ⟨rfl, rfl⟩), rfl, rfl⟩
  intro h
  cases h

theorem cpuReady (s : State) (h : s.unpred = false) (h1 : requesterExists s.cfg (some 0) = true)
    (h2 : cpuExists s.cfg 0 = true) (h3 : interfaceReachable s.cfg (some 0) 0 = true) :
    CpuWordReady s cArgs ∧ CpuWordReady s cArgsNs :=
  ⟨⟨h, h1, h2, h3, rfl, rfl⟩, ⟨h, h1, h2, h3, rfl, rfl⟩⟩

theorem cpuReadyM : CpuWordReady (fresh cfgM) cArgs := (cpuReady _ rfl rfl rfl rfl).1
theorem cpuReadyS : CpuWordReady (fresh cfgS) cArgs ∧ CpuWordReady (fresh cfgS) cArgsNs :=
  cpuReady _ rfl rfl rfl rfl

theorem witness_IcdictrRead : DistWordReady (fresh cfgSM) dArgs := distReady _
theorem witness_ImplementerReads : DistWordReady (fresh cfgM) dArgs ∧ CpuWordReady (fresh cfgM) cArgs :=
  ⟨distReady _, cpuReadyM⟩
theorem witness_IdentificationReads : DistWordReady (fresh cfgU) dArgs := distReady _
theorem witness_ReservedAddresses : DistWordReady (fresh cfgM) dArgs ∧ Immediate (fresh cfgM)
    ∧ CpuWordReady (fresh cfgM) cArgs := ⟨distReady _, rfl, cpuReadyM⟩
theorem witness_ReadOnlyWrites : DistWordReady (fresh cfgM) dArgs ∧ Immediate (fresh cfgM)
    ∧ CpuWordReady (fresh cfgM) cArgs := ⟨distReady _, rfl, cpuReadyM⟩
theorem witness_ImplementationDefinedAddresses :
    DistWordReady (fresh cfgM) dArgs ∧ Immediate (fresh cfgM) ∧ CpuWordReady (fresh cfgM) cArgs
      ∧ (fresh cfgM).cfg.impdefRegs = .razWi := ⟨distReady _, rfl, cpuReadyM, rfl⟩
theorem witness_WriteOnlyReads : DistWordReady (fresh cfgM) dArgs ∧ CpuWordReady (fresh cfgM) cArgs :=
  ⟨distReady _, cpuReadyM⟩
theorem witness_IcddcrRead : DistWordReady (fresh cfgS) dArgsNs := distReadyNs _

/-- Both values of EDGE_HIGH_AT_ENABLE, and an interrupt that the write latches. -/
theorem witness_IcddcrWrite :
    let s := lineHigh 40 (fresh { cfgU with cfgReset := slotRange 264 264, edgeHighAtEnable := .edge })
    DistWordReady (fresh cfgS) dArgsNs ∧ Immediate (fresh cfgS)
      ∧ (fresh cfgS).cfg.edgeHighAtEnable = .noEdge
      ∧ DistWordReady s dArgs ∧ Immediate s ∧ s.cfg.edgeHighAtEnable = .edge
      ∧ implemented s.cfg 0 40 = true ∧ edgeOf s 0 40 = true ∧ lineOf s 0 40 = true
      ∧ fwdEn s 0 40 = false :=
  ⟨distReadyNs _, rfl, rfl, ⟨rfl, rfl, rfl, rfl⟩, rfl, rfl, by decide +kernel, by decide +kernel,
    by decide +kernel, by decide +kernel⟩

theorem witness_IcdisrRead : DistWordReady (fresh cfgS) dArgs := distReady _

/-- Ignored; a busy interrupt changed; nothing that is changed is busy. -/
theorem witness_IcdisrWrite :
    (DistWordReady (fresh cfgU) dArgs ∧ Immediate (fresh cfgU) ∧ (fresh cfgU).cfg.secext = false)
    ∧ (let s := latched 41 41 (fresh cfgS);
      DistWordReady s dArgs ∧ Immediate s ∧ s.cfg.secext = true ∧ dArgs.ns = false ∧ 41 < 1020
        ∧ 41 / 32 = (1#5 : BitVec 5).toNat ∧ Reaches s dArgs.req 0 41 ∧ implemented s.cfg 0 41 = true
        ∧ alwaysSecure s.cfg 0 41 = false ∧ alwaysNs s.cfg 0 41 = false ∧ locked s 41 = false
        ∧ nsbOf s 0 41 ≠ (0x200#32 : Word).getLsbD (41 % 32) ∧ pend s 0 41 = true)
    ∧ (DistWordReady (fresh cfgS) dArgs ∧ Immediate (fresh cfgS) ∧ (fresh cfgS).cfg.secext = true
      ∧ dArgs.ns = false ∧ ∀ c n, ¬ (pend (fresh cfgS) c n = true ∨ act (fresh cfgS) c n = true
        ∨ (32 ≤ n ∧ actAny (fresh cfgS) n = true))) := by
  refine ⟨⟨distReady _, rfl, rfl⟩, ⟨⟨rfl, rfl, rfl, rfl⟩, rfl, rfl, rfl, by decide, by decide,
    fun h => absurd h (by decide), by decide +kernel, by decide +kernel, by decide +kernel,
    by decide +kernel, by decide +kernel, by decide +kernel⟩, distReady _, rfl, rfl, rfl, fun c n => ?_⟩
  simp [fresh, resetWith_pend, resetWith_act, actAny]

theorem witness_BitmapReads : DistWordReady (fresh cfgS) dArgsNs := distReadyNs _
theorem witness_ActiveBitRead : DistWordReady (fresh cfgM) dArgs := distReady _
theorem witness_EnableWrites : DistWordReady (fresh cfgS) dArgsNs ∧ Immediate (fresh cfgS) :=
  ⟨distReadyNs _, rfl⟩
theorem witness_PendingWrites : DistWordReady (fresh cfgS) dArgs ∧ Immediate (fresh cfgS) :=
  ⟨distReady _, rfl⟩
/-- Also with a locked interrupt that is enabled (32) and one that is not (33). -/
theorem witness_DiscoveryByEnable :
    (DistWordReady (fresh cfgU) dArgs ∧ Immediate (fresh cfgU))
    ∧ (let s := (lockedDown (fresh cfgS)).setEn (slotRange 256 256);
      DistWordReady s dArgs ∧ Immediate s ∧ visible s 0 32 false = true ∧ locked s 32 = true
        ∧ enOf s 0 32 = true ∧ visible s 0 33 false = true ∧ locked s 33 = true
        ∧ enOf s 0 33 = false) :=
  ⟨⟨distReady _, rfl⟩, ⟨rfl, rfl, rfl, rfl⟩, rfl, by decide +kernel, by decide +kernel,
    by decide +kernel, by decide +kernel, by decide +kernel, by decide +kernel⟩

/-- A word, a byte and a halfword access. -/
theorem bytesReady : DistBytesReady (fresh cfgM) dArgs
    ∧ DistBytesReady (fresh cfgM) ⟨3#2, .byte, true, some 1⟩
    ∧ DistBytesReady (fresh { cfgM with halfword := .bytePairs }) ⟨2#2, .halfword, false, some 0⟩ :=
  ⟨⟨rfl, rfl, .inl ⟨rfl, rfl⟩⟩, ⟨rfl, rfl, .inr (.inl rfl)⟩, ⟨rfl, rfl, .inr (.inr ⟨rfl, rfl, rfl⟩)⟩⟩

/-- Interrupt 40 of ICDIPR10 is Visible to processor 0, 48 is not. -/
theorem witness_PriorityRead : DistBytesReady (fresh cfgM) dArgs ∧ Reaches (fresh cfgM) dArgs.req 0 40
    ∧ visible (fresh cfgM) 0 40 dArgs.ns = true ∧ ∀ c, visible (fresh cfgM) c 48 dArgs.ns = false :=
  ⟨bytesReady.1, fun h => absurd h (by decide), by decide +kernel, by decide +kernel⟩

theorem witness_PriorityWrite :
    DistBytesReady (fresh cfgM) dArgs ∧ Immediate (fresh cfgM)
      ∧ DistBytesReady (fresh cfgM) ⟨3#2, .byte, true, some 1⟩
      ∧ writable (fresh cfgM) 0 40 false = true ∧ fixedPriority (fresh cfgM).cfg 0 40 = none :=
  ⟨bytesReady.1, rfl, bytesReady.2.1, by decide +kernel, by decide +kernel⟩

/-- A uniprocessor and a multiprocessor, at both ends of the range of SPI registers. -/
theorem witness_TargetsRead :
    DistBytesReady (fresh cfgM) dArgs ∧ 8 ≤ (8#8 : BitVec 8).toNat ∧ 8 ≤ (254#8 : BitVec 8).toNat
      ∧ ncpu (fresh cfgM).cfg ≠ 1 ∧ ncpu (fresh cfgU).cfg = 1
      ∧ visible (fresh cfgM) 0 3 false = true ∧ visible (fresh cfgM) 0 16 false = false :=
  ⟨bytesReady.1, by decide, by decide, by decide, by decide, by decide +kernel, by decide +kernel⟩

theorem witness_TargetsWrite :
    DistBytesReady (fresh cfgM) dArgs ∧ Immediate (fresh cfgM) ∧ 8 ≤ (8#8 : BitVec 8).toNat
      ∧ ncpu (fresh cfgM).cfg ≠ 1 ∧ writable (fresh cfgM) 0 32 false = true
      ∧ spiTargetFixed (fresh cfgM).cfg 32 = none :=
  ⟨bytesReady.1, rfl, by decide, by decide, by decide +kernel, by decide +kernel⟩

theorem witness_TriggerRead : DistWordReady (fresh cfgS) dArgs := distReady _

/-- An enabled interrupt whose mode changes; only disabled ones whose mode changes (40, all of ICDICFR2
disabled). -/
theorem witness_TriggerWrite :
    (DistWordReady (ready cfgU) dArgs ∧ Immediate (ready cfgU) ∧ 40 / 16 = (2#6 : BitVec 6).toNat
      ∧ Reaches (ready cfgU) dArgs.req 0 40 ∧ writable (ready cfgU) 0 40 false = true
      ∧ edgeOf (ready cfgU) 0 40 ≠ (0x00020000#32 : Word).getLsbD (2 * (40 % 16) + 1)
      ∧ enOf (ready cfgU) 0 40 = true)
    ∧ (DistWordReady (fresh cfgU) dArgs ∧ Immediate (fresh cfgU)
      ∧ writable (fresh cfgU) 0 40 false = true
      ∧ edgeOf (fresh cfgU) 0 40 ≠ (0x00020000#32 : Word).getLsbD (2 * (40 % 16) + 1)
      ∧ ∀ c : Cpu, ∀ k < 16, enOf (fresh cfgU) c (32 + k) = false) :=
  ⟨⟨⟨rfl, rfl, rfl, rfl⟩, rfl, by decide, fun h => absurd h (by decide), by decide +kernel,
    by decide +kernel, by decide +kernel⟩, distReady _, rfl, by decide +kernel, by decide +kernel,
    by decide +kernel⟩

/-- No requester; a non-zero SBZ field; the reserved filter; each other filter. -/
theorem witness_SgiWrite :
    DistWordReady (fresh cfgM) ⟨0#2, .word, false, none⟩ ∧ Immediate (fresh cfgM)
      ∧ sourceId (fresh cfgM).cfg none = none ∧ DistWordReady (fresh cfgM) dArgs
      ∧ sourceId (fresh cfgM).cfg dArgs.req = some 0
      ∧ (0x00010010#32 : Word).extractLsb' 4 11 ≠ 0#11
      ∧ ((0x03000000#32 : Word).extractLsb' 24 2).toNat = 3
      ∧ (0x02FF0005#32 : Word).extractLsb' 4 11 = 0#11
      ∧ ((0x02FF0005#32 : Word).extractLsb' 24 2).toNat ≠ 3 :=
  by refine ⟨⟨rfl, rfl, rfl, rfl⟩, rfl, by decide, distReady _, by decide, by decide, by decide, by decide,
    by decide⟩

/-- Filters 0, 1 and 2 select interface 1 (listed), interface 1 (not the requester) and interface 0 (the
requester); a uniprocessor's access with REQV = 0 counts as processor 0's (log 8). -/
theorem witness_SgiWrite_filters :
    (let s := put 0x00112F00#32 0x00020005#32 (fresh cfgM);
      sgipOf s 0 5 0 = false ∧ sgipOf s 1 5 0 = true)
    ∧ (let s := put 0x00112F00#32 0x01000005#32 (fresh cfgM);
      sgipOf s 0 5 0 = false ∧ sgipOf s 1 5 0 = true)
    ∧ (let s := put 0x00112F00#32 0x02000005#32 (fresh cfgM);
      sgipOf s 0 5 0 = true ∧ sgipOf s 1 5 0 = false)
    ∧ sourceId cfgU none = some 0
    ∧ sgipOf (put 0x00012F00#32 0x02000005#32 (fresh cfgU)) 0 5 0 = true := by decide +kernel

theorem witness_IccicrRead : CpuWordReady (fresh cfgS) cArgs ∧ CpuWordReady (fresh cfgS) cArgsNs := cpuReadyS
/-- Also with lockdown active. -/
theorem witness_IccicrWrite : CpuWordReady (fresh cfgS) cArgs ∧ CpuWordReady (fresh cfgS) cArgsNs
    ∧ CpuWordReady (lockedDown (fresh cfgS)) cArgs ∧ lockActive (lockedDown (fresh cfgS)) = true :=
  ⟨cpuReadyS.1, cpuReadyS.2, (cpuReady _ rfl rfl rfl rfl).1, by decide +kernel⟩

/-- CFG-U after reset meets the invariant. -/
theorem invariant_fresh_U : Inv (fresh cfgU) := fun _ =>
  { activeNodup := fun c => by simp [fresh]
    activeOnce := fun _ c n _ =>
      ⟨fun c' h => by simp [fresh, resetWith_act] at h, by simp [fresh]⟩
    activeImplemented := fun c e h => by simp [fresh] at h
    prioritiesMasked := by
      refine ⟨fun k => ?_, fun c => by simp [fresh]⟩
      have : getByte (fresh cfgU).gic.pri k = 0#8 := getByte_reset k
      simp [this]
    binaryPoints := fun c => by rw [fresh, resetWith_ifc]; decide
    targetsExist := fun k => by
      have : getByte (fresh cfgU).gic.tgt k = 0#8 := getByte_reset k
      simp [this]
    noSecurityState := fun _ c => by rw [fresh, resetWith_ifc]; decide
    pendingImplemented := by
      refine ⟨fun c n _ h => ?_, fun c n src h => ?_, fun c n _ h => ?_⟩
      · simp [latchOf, fresh] at h
      · simp [sgipOf, fresh] at h
      · simp [fresh] at h
    queue := fun _ => rfl }

theorem witness_IccpmrRead :
    CpuWordReady (fresh cfgS) cArgsNs ∧ CpuWordReady (fresh cfgU) cArgs ∧ Inv (fresh cfgU)
      ∧ (fresh cfgU).cfg.secext = false :=
  ⟨cpuReadyS.2, (cpuReady _ rfl rfl rfl rfl).1, invariant_fresh_U, rfl⟩
/-- A mask below, at and above 0x80. -/
theorem witness_IccpmrWrite : CpuWordReady (fresh cfgS) cArgsNs
    ∧ CpuWordReady (masked 0x80#8 (fresh cfgS)) cArgsNs ∧ CpuWordReady (ready cfgS) cArgs :=
  ⟨cpuReadyS.2, (cpuReady _ rfl rfl rfl rfl).2, (cpuReady _ rfl rfl rfl rfl).1⟩
theorem witness_BinaryPoints : CpuWordReady (fresh cfgS) cArgsNs ∧ CpuWordReady (fresh cfgU) cArgs
    ∧ Inv (fresh cfgU) := ⟨cpuReadyS.2, (cpuReady _ rfl rfl rfl rfl).1, invariant_fresh_U⟩

/-- Nothing pending; not signalable; Secure and a Non-secure read; Non-secure, a Secure read, AckCtl 0. -/
theorem witness_AcknowledgeSpurious :
    (CpuWordReady (fresh cfgS) cArgs ∧ windowSpi (fresh cfgS) 0 false = none
      ∧ hppi (fresh cfgS) 0 = none)
    ∧ (let s := masked 0x20#8 (latched 40 40 (ready cfgS));
      CpuWordReady s cArgs ∧ windowSpi s 0 false = none ∧ hppi s 0 = some ⟨40, 0⟩
        ∧ signalable s 0 40 = false)
    ∧ (let s := latched 40 40 (ready cfgS);
      CpuWordReady s cArgsNs ∧ windowSpi s 0 true = none ∧ hppi s 0 = some ⟨40, 0⟩
        ∧ s.cfg.secext = true ∧ isSecureInt s 0 40 = true)
    ∧ (let s := latched 41 41 (ready cfgS);
      CpuWordReady s cArgs ∧ windowSpi s 0 false = none ∧ hppi s 0 = some ⟨41, 0⟩
        ∧ signalable s 0 41 = true ∧ s.cfg.secext = true ∧ isSecureInt s 0 41 = false
        ∧ (s.ifc 0).ackCtl = false) := by
  refine ⟨⟨cpuReadyS.1, ?_⟩, ⟨(cpuReady _ rfl rfl rfl rfl).1, ?_⟩, ⟨(cpuReady _ rfl rfl rfl rfl).2, ?_⟩,
    (cpuReady _ rfl rfl rfl rfl).1, ?_⟩ <;> decide +kernel

/-- A Secure interrupt; a Non-secure one by a Non-secure read; a Non-secure one by a Secure read. -/
theorem witness_AcknowledgeValid :
    (let s := latched 40 40 (ready cfgS);
      CpuWordReady s cArgs ∧ windowSpi s 0 false = none ∧ hppi s 0 = some ⟨40, 0⟩
        ∧ signalable s 0 40 = true ∧ isSecureInt s 0 40 = true)
    ∧ (let s := latched 41 41 (ready cfgS);
      CpuWordReady s cArgsNs ∧ windowSpi s 0 true = none ∧ hppi s 0 = some ⟨41, 0⟩
        ∧ signalable s 0 41 = true ∧ isSecureInt s 0 41 = false)
    ∧ (let s := controls true false (latched 41 41 (ready cfgS));
      CpuWordReady s cArgs ∧ windowSpi s 0 false = none ∧ hppi s 0 = some ⟨41, 0⟩
        ∧ signalable s 0 41 = true ∧ (s.ifc 0).ackCtl = true) := by
  refine ⟨⟨(cpuReady _ rfl rfl rfl rfl).1, ?_⟩, ⟨(cpuReady _ rfl rfl rfl rfl).2, ?_⟩,
    (cpuReady _ rfl rfl rfl rfl).1, ?_⟩ <;> decide +kernel

/-- An SGI of processor 1; an SPI whose window the acknowledge opens to interface 1. -/
theorem witness_AcknowledgeValid_instances :
    (let s := (ready cfgM).setSgip (1#1024 <<< 25);
      CpuWordReady s cArgs ∧ windowSpi s 0 false = none ∧ hppi s 0 = some ⟨3, 1⟩
        ∧ signalable s 0 3 = true)
    ∧ (let s := latched 40 40 (ready cfgM);
      CpuWordReady s cArgs ∧ windowSpi s 0 false = none ∧ hppi s 0 = some ⟨40, 0⟩
        ∧ signalable s 0 40 = true ∧ s.cfg.spiDoubleAck = .allowed
        ∧ ({ id := 40, src := 0 } : IntRef) ∈ topCands s 1 ∧ signalable s 1 40 = true) := by
  refine ⟨⟨(cpuReady _ rfl rfl rfl rfl).1, ?_⟩, (cpuReady _ rfl rfl rfl rfl).1, ?_⟩ <;>
    decide +kernel

/-- The state after interface 1 acknowledged SPI 40 in CFG-M: interface 0 is in its window. -/
def windowOpen : State := put 0x0033100C#32 0#32 (latched 40 40 (ready cfgM))

theorem witness_AcknowledgeWindow :
    (CpuWordReady (fresh cfgM) cArgs ∧ ∀ n, 32 ≤ n → n < 1020 →
      ((fresh cfgM).ifc 0).ackWindow.getLsbD (slot 0 n) = false)
    ∧ CpuWordReady windowOpen cArgs ∧ openWindows windowOpen 0 = [40] ∧ act windowOpen 0 40 = false
      ∧ signalable windowOpen 0 40 = true := by
  refine ⟨⟨cpuReadyM, fun n _ _ => by simp [fresh]⟩,
    cpuReady _ (by decide +kernel) (by decide +kernel) (by decide +kernel) (by decide +kernel) |>.1, ?_⟩
  decide +kernel

/-- Spurious; not active; wrong CPUID; not permitted; out of order; in order. -/
theorem witness_EndOfInterrupt :
    (CpuWordReady (fresh cfgS) cArgs ∧ ActiveNodup (fresh cfgS)
      ∧ ((0x3FE#32 : Word).extractLsb' 0 10).toNat = 1022 ∧ (fresh cfgS).cfg.secext = true
      ∧ ∀ e ∈ ((fresh cfgS).ifc 0).active, e.id ≠ 40)
    ∧ (let s := activeOn 0 [⟨35, 0, 0x14#8⟩, ⟨3, 1, 0x0C#8⟩] (fresh cfgM);
      CpuWordReady s cArgs ∧ ActiveNodup s ∧ (⟨3, 1, 0x0C#8⟩ : ActiveEntry) ∈ (s.ifc 0).active
        ∧ ((0x003#32 : Word).extractLsb' 10 3).toNat ≠ 1 ∧ ((0x403#32 : Word).extractLsb' 10 3).toNat = 1
        ∧ (s.ifc 0).active.getLast? = some ⟨3, 1, 0x0C#8⟩
        ∧ (s.ifc 0).active.getLast? ≠ some ⟨35, 0, 0x14#8⟩)
    ∧ (let s := activeOn 0 one (ready cfgS);
      CpuWordReady s cArgsNs ∧ ActiveNodup s ∧ s.cfg.secext = true ∧ isSecureInt s 0 40 = true) := by
  refine ⟨⟨cpuReadyS.1, ?_, by decide, rfl, ?_⟩, ⟨(cpuReady _ rfl rfl rfl rfl).1, ?_, ?_⟩,
    (cpuReady _ rfl rfl rfl rfl).2, ?_, ?_⟩
  · intro c; simp [fresh]
  · simp [fresh]
  · unfold ActiveNodup; decide +kernel
  · decide +kernel
  · unfold ActiveNodup; decide +kernel
  · decide +kernel

theorem witness_AcknowledgeThenEnd : ∃ t, CpuWordReady (latched 40 40 (ready cfgS)) cArgs
    ∧ exec (.rdIcciar cArgs) (latched 40 40 (ready cfgS)) = .next t
    ∧ t.gic.readData.toNat % 1024 < 1020 :=
  ⟨_, (cpuReady _ rfl rfl rfl rfl).1, rfl, by decide +kernel⟩

theorem witness_AcknowledgedSpiIsNoCandidate : ∃ t, CpuWordReady (latched 40 40 (ready cfgM)) cArgs
    ∧ exec (.rdIcciar cArgs) (latched 40 40 (ready cfgM)) = .next t
    ∧ 40 = t.gic.readData.toNat % 1024 :=
  ⟨_, (cpuReady _ rfl rfl rfl rfl).1, rfl, by decide +kernel⟩

theorem witness_RunningPriorityRead :
    (CpuWordReady (fresh cfgS) cArgs ∧ ((fresh cfgS).ifc 0).active = [])
    ∧ (CpuWordReady (activeOn 0 one (fresh cfgS)) cArgsNs
      ∧ ((activeOn 0 one (fresh cfgS)).ifc 0).active ≠ []) :=
  ⟨⟨cpuReadyS.1, by decide +kernel⟩, (cpuReady _ rfl rfl rfl rfl).2, by decide +kernel⟩

/-- With ACTIVE_PRIORITY_TRACKS_ICDIPR the current priority 0x20 counts, not the recorded 0x70. -/
theorem witness_RunningPriorityRead_tracking :
    let s := activeOn 0 [⟨40, 0, 0x70#8⟩] (ready { cfgU with activePriorityTracks := true })
    CpuWordReady s cArgs ∧ s.cfg.activePriorityTracks = true ∧ (s.ifc 0).active ≠ []
      ∧ get 0x00111014#32 s = some 0x20 :=
  ⟨(cpuReady _ rfl rfl rfl rfl).1, rfl, by decide +kernel, by decide +kernel⟩

/-- Nothing pending; with the Security Extensions; without them. -/
theorem witness_HighestPendingRead :
    (CpuWordReady (fresh cfgS) cArgs ∧ hppi (fresh cfgS) 0 = none)
    ∧ (let s := latched 41 41 (ready cfgS);
      CpuWordReady s cArgs ∧ hppi s 0 = some ⟨41, 0⟩ ∧ s.cfg.secext = true
        ∧ signalable s 0 41 = true ∧ isSecureInt s 0 41 = false ∧ (s.ifc 0).ackCtl = false)
    ∧ (let s := latched 40 40 (ready cfgS);
      CpuWordReady s cArgsNs ∧ hppi s 0 = some ⟨40, 0⟩ ∧ isSecureInt s 0 40 = true
        ∧ signalable (masked 0x20#8 s) 0 40 = false ∧ hppi (masked 0x20#8 s) 0 = some ⟨40, 0⟩)
    ∧ (let s := masked 0x20#8 (latched 40 40 (ready { cfgU with hpirPriorityFilter := true }));
      CpuWordReady s cArgs ∧ hppi s 0 = some ⟨40, 0⟩ ∧ s.cfg.secext = false
        ∧ (s.ifc 0).enableS = true ∧ sufficientPriority s 0 40 = false) := by
  refine ⟨⟨cpuReadyS.1, ?_⟩, ⟨(cpuReady _ rfl rfl rfl rfl).1, ?_⟩, ⟨(cpuReady _ rfl rfl rfl rfl).2, ?_⟩,
    (cpuReady _ rfl rfl rfl rfl).1, ?_⟩ <;> decide +kernel

/-- Binary points at both ends of the range, below and at a minimum of 3. -/
theorem witness_GroupPriorityCompare : 0 ≤ 7 ∧ 7 ≤ 7
    ∧ max 0 (minimumBinaryPoint { cfgU with minBinaryPoint := 3#2 }) = 3
    ∧ gicPriorityMask { cfgU with minBinaryPoint := 3#2 } 0 false = 0xF0#8
    ∧ gicPriorityMask cfgU 0 true = 0xFF#8 ∧ gicPriorityMask cfgU 7 false = 0x00#8 := by decide +kernel

/-- Each part of the condition of a signal: the mask at its bound, nothing active, something active of a
lower priority and of the same group, the two binary points and SBPR, and the two enables. -/
theorem witness_GroupPriorityCompare_signalable :
    (let s := ready cfgU;
      signalable s 0 40 = true ∧ signalable (masked 0x20#8 s) 0 40 = false
        ∧ signalable (masked 0x21#8 s) 0 40 = true
        ∧ signalable (s.withIfc 0 { s.ifc 0 with enableS := false }) 0 40 = false
        ∧ signalable (activeOn 0 [⟨32, 0, 0x22#8⟩] s) 0 40 = true
        ∧ signalable (activeOn 0 [⟨32, 0, 0x21#8⟩] s) 0 40 = false)
    ∧ (let s := activeOn 0 [⟨32, 0, 0xA8#8⟩] (ready cfgS);
      let i := s.ifc 0;
      isSecureInt s 0 41 = false ∧ signalable s 0 41 = true
        ∧ signalable (s.withIfc 0 { i with enableNS := false }) 0 41 = false
        ∧ signalable (s.withIfc 0 { i with bprNS := 4#3 }) 0 41 = false
        ∧ signalable (s.withIfc 0 { i with bprS := 4#3 }) 0 41 = true
        ∧ signalable (s.withIfc 0 { i with bprS := 4#3, sbpr := true }) 0 41 = false) := by
  decide +kernel

/-- The highest SGI and the lowest peripheral interrupt, pending. -/
theorem witness_PendingStatus :
    15 < 16 ∧ pend ((fresh cfgU).setSgip (1#1024 <<< 120)) 0 15 = true
      ∧ pend ((fresh cfgU).setLatch (slotRange 16 16)) 0 16 = true := by decide +kernel

/-- No candidate; two of different priority; an SGI; an interrupt that is signalled. -/
theorem witness_NeverSignalsActive :
    hppi (ready cfgS) 0 = none
      ∧ (let s := latched 40 41 (ready cfgS);
        cands s 0 = [⟨40, 0⟩, ⟨41, 0⟩] ∧ hppi s 0 = some ⟨40, 0⟩)
      ∧ hppi ((ready cfgU).setSgip (1#1024 <<< 40)) 0 = some ⟨5, 0⟩
      ∧ (nextOutputs (latched 40 40 (ready cfgS)) 0).1 = true := by decide +kernel

/-- One interrupt that exists, line LOW and line HIGH. -/
theorem witness_LineEvents :
    (fresh cfgU).unpred = false ∧ 16 ≤ 27 ∧ implemented (fresh cfgU).cfg 0 27 = true
      ∧ lineOf (fresh cfgU) 0 27 = false ∧ lineOf (lineHigh 40 (fresh cfgU)) 0 40 = true
      ∧ implemented (fresh cfgU).cfg 0 40 = true
      ∧ ({ fresh cfgU with inputs := [.lineRise 0 27] } : State).inputs = .lineRise 0 27 :: []
      ∧ ({ lineHigh 40 (fresh cfgU) with inputs := [.lineFall 0 40] } : State).inputs
        = .lineFall 0 40 :: [] := by decide +kernel

/-- A legacy input that exists, and one that does not. -/
theorem witness_SystemInputs :
    legacy.unpred = false ∧ cpuExists legacy.cfg 0 = true ∧ passThrough legacy.cfg 0 = true
      ∧ legacy.cfg.secext = true ∧ cpuExists legacy.cfg 1 = false
      ∧ passThrough (fresh cfgS).cfg 0 = false
      ∧ ({ legacy with inputs := [.legacyFiq 0 false] } : State).inputs = .legacyFiq 0 false :: []
      ∧ ({ legacy with inputs := [.legacyIrq 1 false] } : State).inputs = .legacyIrq 1 false :: []
      ∧ ({ legacy with inputs := [.cfgsdisableSet true] } : State).inputs = .cfgsdisableSet true :: [] := by
  decide +kernel

/-- LEGACY_FIQ without the Security Extensions. -/
theorem witness_SystemInputs_noFiq :
    let s := { fresh { cfgU with passThrough := 1#8 } with inputs := [.legacyFiq 0 true] }
    s.unpred = false ∧ cpuExists s.cfg 0 = true ∧ passThrough s.cfg 0 = true
      ∧ s.cfg.secext = false ∧ s.inputs = .legacyFiq 0 true :: [] := by decide +kernel

theorem witness_ResetEvent :
    ({ ready cfgSM with inputs := [.reset], unpred := true } : State).inputs = .reset :: [] := rfl

theorem witness_EvaluateOutputs :
    let s := { latched 40 40 (ready cfgS) with inputs := [.evaluate 0] }
    s.unpred = false ∧ cpuExists s.cfg 0 = true ∧ s.inputs = .evaluate 0 :: [] := by decide +kernel

/-- Without pass-through, and with it in a row where the GIC drives the pin and one where it does not. -/
theorem witness_OutputPins :
    passThrough (fresh cfgS).cfg 0 = false ∧ passThrough legacy.cfg 0 = true
      ∧ ((legacy.ifc 0).fiqEn, (legacy.ifc 0).enableS, (legacy.ifc 0).enableNS) = (false, false, false)
      ∧ (let s := put 0x00113000#32 0xB#32 legacy;
        ((s.ifc 0).fiqEn, (s.ifc 0).enableS, (s.ifc 0).enableNS) = (true, true, true)) := by
  decide +kernel

/-- The lowest and the highest SPI. -/
theorem witness_CloseAckWindow :
    windowOpen.unpred = false ∧ windowOpen.cfg.spiDoubleAck = .allowed ∧ 32 ≤ 32 ∧ 1019 < 1020
      ∧ ({ windowOpen with inputs := [.closeAckWindow 40] } : State).inputs = .closeAckWindow 40 :: [] := by
  refine ⟨by decide +kernel, by decide +kernel, by decide, by decide, rfl⟩

/-- The configuration with delayed writes. -/
def cfgDelayed : Config := { cfgU with distWriteLatency := .delayed }

theorem witness_DelayedWrites :
    ((accessInfo (.wrIcddcr dArgs 1#32)).write = true ∧ (accessInfo (.wrIcddcr dArgs 1#32)).ifc = none
      ∧ (fresh cfgDelayed).unpred = false ∧ Accepted (fresh cfgDelayed) (.wrIcddcr dArgs 1#32)
      ∧ (fresh cfgDelayed).cfg.distWriteLatency = .delayed
      ∧ Accepted (fresh cfgU) (.wrIcddcr dArgs 1#32) ∧ (fresh cfgU).cfg.distWriteLatency = .immediate)
    ∧ (let s := { put 0x00112000#32 1#32 (fresh cfgDelayed) with inputs := [.applyWrite] };
      s.unpred = false ∧ s.inputs = .applyWrite :: [] ∧ s.gic.wq = .wrIcddcr dArgs 1#32 :: [])
    ∧ (fresh cfgDelayed).gic.wq = [] := by
  refine ⟨⟨rfl, rfl, rfl, ⟨rfl, by simp [accessInfo]⟩, rfl, ⟨rfl, by simp [accessInfo]⟩, rfl⟩, ?_, rfl⟩
  decide +kernel

/-- A state after reset with an access waiting. -/
def waiting (aw data : Word) (s : State) : State := { s with inputs := [.access aw data] }

theorem witness_InvariantKept : ∃ t, Inv (fresh cfgU) ∧ step (fresh cfgU) = .next t :=
  ⟨_, invariant_fresh_U, rfl⟩

theorem witness_UnpredictableUntilReset : ∃ t, ({ fresh cfgU with unpred := true } : State).unpred = true
    ∧ step { fresh cfgU with unpred := true } = .next t := ⟨_, rfl, rfl⟩

/-- Becoming active, and ceasing to be. -/
theorem witness_ActiveOnlyByAcknowledge :
    (let s := waiting 0x0011100C#32 0#32 (latched 40 40 (ready cfgS));
      ∃ t, s.unpred = false ∧ step s = .next t ∧ t.unpred = false ∧ act s 0 40 = false
        ∧ act t 0 40 = true)
    ∧ (let s := waiting 0x00113010#32 40#32 (activeOn 0 one (ready cfgS));
      ∃ t, s.unpred = false ∧ step s = .next t ∧ t.unpred = false ∧ act s 0 40 = true
        ∧ act t 0 40 = false) :=
  ⟨⟨_, rfl, rfl, by decide +kernel, by decide +kernel, by decide +kernel⟩,
    ⟨_, rfl, rfl, by decide +kernel, by decide +kernel, by decide +kernel⟩⟩

/-- The same read of ICCIAR, by its address. -/
theorem witness_ActiveOnlyByAcknowledge_mem :
    let s := { latched 40 40 (ready cfgS) with
      inputs := [.mem (reading 0x200C (some 0))] }
    ∃ t, s.unpred = false ∧ step s = .next t ∧ t.unpred = false ∧ act s 0 40 = false
      ∧ act t 0 40 = true :=
  ⟨_, rfl, rfl, by decide +kernel, by decide +kernel, by decide +kernel⟩

/-- An SGI sent at once, and one acknowledged. -/
theorem witness_SgiPendingTransitions :
    (let s := waiting 0x00112F00#32 0x00010005#32 (ready cfgU);
      ∃ t, s.unpred = false ∧ step s = .next t ∧ t.unpred = false
        ∧ sgipOf s 0 5 0 = false ∧ sgipOf t 0 5 0 = true)
    ∧ (let s := waiting 0x0011100C#32 0#32 ((ready cfgU).setSgip (1#1024 <<< 40));
      ∃ t, s.unpred = false ∧ step s = .next t ∧ t.unpred = false
        ∧ sgipOf s 0 5 0 = true ∧ sgipOf t 0 5 0 = false) :=
  ⟨⟨_, rfl, rfl, by decide +kernel, by decide +kernel, by decide +kernel⟩,
    ⟨_, rfl, rfl, by decide +kernel, by decide +kernel, by decide +kernel⟩⟩

/-- An SGI write queued, performed by APPLY_WRITE and by a step with no operation waiting. -/
theorem witness_SgiPendingTransitions_delayed :
    let s := put 0x00112F00#32 0x00010005#32 (ready cfgDelayed)
    (∃ t, s.unpred = false ∧ s.inputs = [] ∧ step s = .next t ∧ t.unpred = false
        ∧ sgipOf s 0 5 0 = false ∧ sgipOf t 0 5 0 = true)
    ∧ ∃ t, step { s with inputs := [.applyWrite] } = .next t ∧ t.unpred = false
        ∧ sgipOf t 0 5 0 = true :=
  ⟨⟨_, rfl, rfl, rfl, by decide +kernel, by decide +kernel, by decide +kernel⟩,
    ⟨_, rfl, by decide +kernel, by decide +kernel⟩⟩

theorem witness_OutputsOnlyByEvaluate :
    let s := { latched 40 40 (ready cfgU) with inputs := [.evaluate 0] }
    ∃ t, s.unpred = false ∧ step s = .next t ∧ t.unpred = false ∧ (t.ifc 0).irq ≠ (s.ifc 0).irq :=
  ⟨_, rfl, rfl, by decide +kernel, by decide +kernel⟩

/-- A Non-secure write, at once and from the queue, in a state with a Secure interrupt. -/
theorem witness_NonsecureIsolation :
    ∃ t, (ready cfgS).cfg.secext = true ∧ (accessInfo (.wrIcdicer 1#5 dArgsNs 0x300#32)).ns = true
      ∧ (ready cfgS).unpred = false
      ∧ exec (.wrIcdicer 1#5 dArgsNs 0x300#32) (ready cfgS) = .next t
      ∧ t = performWrite (.wrIcdicer 1#5 dArgsNs 0x300#32) (ready cfgS) ∧ t.unpred = false
      ∧ isSecureInt (ready cfgS) 0 40 = true :=
  ⟨_, rfl, rfl, rfl, rfl, rfl, by decide +kernel, by decide +kernel⟩

theorem witness_LockdownFrame :
    let s := waiting 0x00112104#32 5#32 (lockedDown (fresh cfgS))
    ∃ t, s.unpred = false ∧ lockActive s = true ∧ step s = .next t ∧ t.unpred = false
      ∧ locked s 32 = true ∧ locked s 33 = true ∧ locked s 34 = false :=
  ⟨_, rfl, by decide +kernel, rfl, by decide +kernel, by decide +kernel, by decide +kernel,
    by decide +kernel⟩

end Sys2Proof.Tests
end

section
/-! SUPPORT. What a step can do, the invariants of R56, the outputs, reset and the read-only values: the
statements about the state of the GIC, settled. -/

namespace Sys2Proof.Machine

-- One theorem after another, as in the tests above: many threads at once need too much memory.
set_option Elab.async false

/-! ## What a step can do, said once: the effect of an access, of an event and of the idle step,
one constructor for each way the registers of the GIC can change. -/

/-! ### Accesses -/

/-- What performing a Distributor write of a supported size can do while UNPRED is clear (R391). -/
inductive WriteEffect (s : State) : Instr → State → Prop
  | ignored (i : Instr) : WriteEffect s i s
  | icddcr (a : DistArgs) (data : Word) :
      WriteEffect s (.wrIcddcr a data) (writeIcddcr a.ns data s)
  | icdisr (m : BitVec 5) (a : DistArgs) (data : Word) :
      WriteEffect s (.wrIcdisr m a data)
        (writeIcdisr (sourceId s.cfg a.req) a.ns m.toNat data s)
  | icdiser (m : BitVec 5) (a : DistArgs) (data : Word) :
      WriteEffect s (.wrIcdiser m a data)
        (writeIcdiser (sourceId s.cfg a.req) a.ns m.toNat data s)
  | icdicer (m : BitVec 5) (a : DistArgs) (data : Word) :
      WriteEffect s (.wrIcdicer m a data)
        (writeIcdicer (sourceId s.cfg a.req) a.ns m.toNat data s)
  | icdispr (m : BitVec 5) (a : DistArgs) (data : Word) :
      WriteEffect s (.wrIcdispr m a data)
        (writeIcdispr (sourceId s.cfg a.req) a.ns m.toNat data s)
  | icdicpr (m : BitVec 5) (a : DistArgs) (data : Word) :
      WriteEffect s (.wrIcdicpr m a data)
        (writeIcdicpr (sourceId s.cfg a.req) a.ns m.toNat data s)
  | icdipr (m : BitVec 8) (a : DistArgs) (data : Word) :
      WriteEffect s (.wrIcdipr m a data) (writeIcdipr a m.toNat data s)
  | icdiptrPriv (m : BitVec 3) (a : DistArgs) (data : Word) :
      WriteEffect s (.wrIcdiptrPriv m a data) (writeIcdiptr a m.toNat data s)
  | icdiptrSpi (m : BitVec 8) (a : DistArgs) (data : Word) :
      WriteEffect s (.wrIcdiptrSpi m a data) (writeIcdiptr a m.toNat data s)
  | icdicfr (m : BitVec 6) (a : DistArgs) (data : Word) :
      WriteEffect s (.wrIcdicfr m a data)
        (writeIcdicfr (sourceId s.cfg a.req) a.ns m.toNat data s)
  | icdsgir (a : DistArgs) (data : Word) :
      WriteEffect s (.wrIcdsgir a data) (writeIcdsgir (sourceId s.cfg a.req) a.ns data s)

/-- What an accepted access of a supported size can do while UNPRED is clear. A Distributor write is
queued or performed (R391); an access to a CPU interface finds the interface present (R101). -/
inductive AccessEffect (s : State) : Instr → State → Prop
  | queued (i : Instr) (hd : writesDelayed s.cfg = true) :
      AccessEffect s i (s.setWq (s.gic.wq ++ [i]))
  | performed {i : Instr} {t : State} (h : WriteEffect s i t) : AccessEffect s i t
  | ignored (i : Instr) : AccessEffect s i s
  | read (i : Instr) (v : Word) : AccessEffect s i (s.respond v)
  | readDrawn (i : Instr) (v : Word) : AccessEffect s i (s.respond v).drawn
  | iccicr (a : CpuArgs) (data : Word) :
      AccessEffect s (.wrIccicr a data) (writeIccicr a.ifc a.ns data s)
  | iccpmr (a : CpuArgs) (data : Word) :
      AccessEffect s (.wrIccpmr a data) (writeIccpmr a.ifc a.ns data s)
  | iccbpr (a : CpuArgs) (data : Word) :
      AccessEffect s (.wrIccbpr a data) (writeIccbpr a.ifc a.ns data s)
  | iccabpr (a : CpuArgs) (data : Word) :
      AccessEffect s (.wrIccabpr a data) (writeIccabpr a.ifc a.ns data s)
  | icciar (a : CpuArgs) (hc : cpuExists s.cfg a.ifc = true) :
      AccessEffect s (.rdIcciar a) (readIar s a.ifc a.ns).drawn
  | icceoir (a : CpuArgs) (data : Word) :
      AccessEffect s (.wrIcceoir a data) (writeEoi s a.ifc a.ns data)

/-- Everything an access that answers a next state can do: once UNPRED is set nothing is promised, and
otherwise it raises Unpredictable or has its effect (R13). -/
def AccessOutcome (s : State) (i : Instr) (t : State) : Prop :=
  (s.unpred = true ∧ t = havoc s) ∨
    (s.unpred = false ∧ ((∃ why, t = raise why s) ∨ AccessEffect s i t))

/-- The size check raises Unpredictable or lets the effect happen (R83 to R86). -/
theorem sized_cases (bytes : Bool) (lane : BitVec 2) (size : AccessSize) (s effect : State) :
    (∃ why, sized bytes lane size s effect = raise why s) ∨
      sized bytes lane size s effect = effect := by
  unfold sized
  split
  · next why _ => exact .inl ⟨why, rfl⟩
  · exact .inr rfl

/-- The size check before a Distributor write. -/
theorem WriteEffect.sized {s e : State} {i : Instr} {bytes : Bool} {lane : BitVec 2}
    {size : AccessSize} (h : WriteEffect s i e) :
    (∃ why, sized bytes lane size s e = raise why s) ∨
      WriteEffect s i (Machine.sized bytes lane size s e) := by
  obtain hr | he := sized_cases bytes lane size s e
  · exact .inl hr
  · rw [he]; exact .inr h

/-- Performing a queued write raises Unpredictable or has the effect of its register (R391). -/
theorem performWrite_cases (i : Instr) (s : State) :
    (∃ why, performWrite i s = raise why s) ∨ WriteEffect s i (performWrite i s) := by
  cases i
  case wrIcddcr a data => exact (WriteEffect.icddcr a data).sized
  case wrIcdisr m a data => exact (WriteEffect.icdisr m a data).sized
  case wrIcdiser m a data => exact (WriteEffect.icdiser m a data).sized
  case wrIcdicer m a data => exact (WriteEffect.icdicer m a data).sized
  case wrIcdispr m a data => exact (WriteEffect.icdispr m a data).sized
  case wrIcdicpr m a data => exact (WriteEffect.icdicpr m a data).sized
  case wrIcdipr m a data => exact (WriteEffect.icdipr m a data).sized
  case wrIcdiptrPriv m a data => exact (WriteEffect.icdiptrPriv m a data).sized
  case wrIcdiptrSpi m a data => exact (WriteEffect.icdiptrSpi m a data).sized
  case wrIcdicfr m a data => exact (WriteEffect.icdicfr m a data).sized
  case wrIcdsgir a data => exact (WriteEffect.icdsgir a data).sized
  -- The read-only and reserved registers of the Distributor.
  case wrIcdictr | wrIcdiidr | wrRes00C | wrIcdabr | wrRes380 | wrRes7FC | wrResBFC | wrImpD00 |
      wrResE00 | wrIcpidr4 | wrIcpidr5 | wrIcpidr6 | wrIcpidr7 | wrIcpidr0 | wrIcpidr1 | wrIcpidr2 |
      wrIcpidr3 | wrIccidr0 | wrIccidr1 | wrIccidr2 | wrIccidr3 | wrResF04 =>
    exact (WriteEffect.ignored _).sized
  -- Reads, and the CPU interface accesses, which are never queued.
  all_goals exact .inr (.ignored _)

/-- The outcome of an access from what its size check answers. -/
theorem accessOutcome_of_sized {s e t : State} {i : Instr} {bytes : Bool} {lane : BitVec 2}
    {size : AccessSize} (he : AccessEffect s i e)
    (ht : t = if s.unpred then havoc s else sized bytes lane size s e) : AccessOutcome s i t := by
  subst ht
  cases hu : s.unpred with
  | true => exact .inl ⟨hu, rfl⟩
  | false =>
    refine .inr ⟨hu, ?_⟩
    obtain hr | hs := sized_cases bytes lane size s e
    · exact .inl hr
    · exact .inr (by rw [if_neg (by simp), hs]; exact he)

theorem onDist_outcome {a : DistArgs} {s e t : State} {i : Instr} {bytes : Bool} {lane : BitVec 2}
    {size : AccessSize} (he : AccessEffect s i e)
    (h : onDist a s (sized bytes lane size s e) = .next t) : AccessOutcome s i t :=
  accessOutcome_of_sized he (onDist_next h).2

theorem onCpu_outcome {a : CpuArgs} {s e t : State} {i : Instr} {bytes : Bool} {lane : BitVec 2}
    {size : AccessSize} (he : cpuExists s.cfg a.ifc = true → AccessEffect s i e)
    (h : onCpu a s (sized bytes lane size s e) = .next t) : AccessOutcome s i t := by
  obtain ⟨⟨-, hc, -⟩, ht⟩ := onCpu_next h
  exact accessOutcome_of_sized (he hc) ht

/-- A Distributor write joins the queue or is performed (R391). -/
theorem writeDist_outcome {a : DistArgs} {s t : State} {i : Instr}
    (h : writeDist a i s (performWrite i s) = .next t) : AccessOutcome s i t := by
  obtain ⟨-, rfl⟩ := onDist_next h
  cases hu : s.unpred with
  | true => exact .inl ⟨hu, rfl⟩
  | false =>
    refine .inr ⟨hu, ?_⟩
    simp only [Bool.false_eq_true, if_false]
    by_cases hd : writesDelayed s.cfg = true
    · rw [if_pos hd]; exact .inr (.queued i hd)
    · rw [if_neg hd]; exact (performWrite_cases i s).imp_right .performed

/-- Everything an instruction can do. -/
theorem exec_next {i : Instr} {s t : State} (h : exec i s = .next t) : AccessOutcome s i t := by
  cases i
  case wrIccicr a data => exact onCpu_outcome (fun _ => .iccicr a data) h
  case wrIccpmr a data => exact onCpu_outcome (fun _ => .iccpmr a data) h
  case wrIccbpr a data => exact onCpu_outcome (fun _ => .iccbpr a data) h
  case wrIccabpr a data => exact onCpu_outcome (fun _ => .iccabpr a data) h
  case wrIcceoir a data => exact onCpu_outcome (fun _ => .icceoir a data) h
  case rdIcciar a => exact onCpu_outcome (.icciar a) h
  case rdIccrpr a =>
    refine onCpu_outcome (fun _ => ?_) h
    unfold readIccrpr
    split
    · exact .read _ _
    · exact .readDrawn _ _
  -- Reads of the Distributor, without and with an open value drawn.
  case rdIcddcr | rdIcdictr | rdIcdiidr | rdRes00C | rdIcdisr | rdIcdiser | rdIcdicer | rdIcdispr |
      rdIcdicpr | rdIcdabr | rdRes380 | rdRes7FC | rdIcdipr | rdResBFC | rdIcdiptrPriv |
      rdIcdiptrSpi | rdIcdicfr | rdResE00 | rdIcpidr4 | rdIcpidr5 | rdIcpidr6 | rdIcpidr7 |
      rdIcpidr0 | rdIcpidr1 | rdIcpidr2 | rdIcpidr3 | rdIccidr0 | rdIccidr1 | rdIccidr2 |
      rdIccidr3 | rdResF04 => exact onDist_outcome (.read _ _) h
  case rdIcdsgir | rdImpD00 => exact onDist_outcome (.readDrawn _ _) h
  -- Reads of a CPU interface, without and with an open value drawn.
  case rdIccicr | rdIccpmr | rdIccbpr | rdIccabpr | rdIcciidr | rdRes20 | rdResD0 | rdResE0 =>
    exact onCpu_outcome (fun _ => .read _ _) h
  case rdIcceoir | rdIcchpir | rdImp40 | rdImp80 | rdImpC0 =>
    exact onCpu_outcome (fun _ => .readDrawn _ _) h
  -- The read-only, reserved and IMPLEMENTATION DEFINED registers of a CPU interface.
  case wrIcciar | wrIccrpr | wrIcchpir | wrIcciidr | wrRes20 | wrImp40 | wrImp80 | wrImpC0 |
      wrResD0 | wrResE0 => exact onCpu_outcome (fun _ => .ignored _) h
  all_goals exact writeDist_outcome h

/-- An access that starts and ends with UNPRED clear had its effect. -/
theorem exec_effect {i : Instr} {s t : State} (h : exec i s = .next t) (hs : s.unpred = false)
    (ht : t.unpred = false) : AccessEffect s i t := by
  obtain ⟨hu, -⟩ | ⟨-, ⟨why, rfl⟩ | he⟩ := exec_next h
  · rw [hs] at hu; cases hu
  · cases ht
  · exact he

/-- No access clears UNPRED (R43). -/
theorem exec_keeps_unpred {i : Instr} {s t : State} (h : exec i s = .next t)
    (hs : s.unpred = true) : t.unpred = true := by
  obtain ⟨-, rfl⟩ | ⟨hu, -⟩ := exec_next h
  · exact hs
  · rw [hs] at hu; cases hu

/-! ### The write of a register that can raise Unpredictable -/

theorem writeIcdisr_cases (req : Option Cpu) (ns : Bool) (m : Nat) (data : Word) (s : State) :
    (∃ why, writeIcdisr req ns m data s = raise why s) ∨
      ∃ v, writeIcdisr req ns m data s = s.setNsb v := by
  unfold writeIcdisr
  split
  · exact .inr ⟨s.gic.nsb, rfl⟩
  · split
    · exact .inl ⟨_, rfl⟩
    · exact .inr ⟨_, rfl⟩

theorem writeIcdicfr_cases (req : Option Cpu) (ns : Bool) (m : Nat) (data : Word) (s : State) :
    (∃ why, writeIcdicfr req ns m data s = raise why s) ∨
      ∃ v, writeIcdicfr req ns m data s = s.setIcfg v := by
  unfold writeIcdicfr
  split
  · exact .inl ⟨_, rfl⟩
  · exact .inr ⟨_, rfl⟩

/-- The bits that are 1 after some bits have been set one after the other. -/
theorem getLsbD_foldl_putBit {w : Nat} {α : Type} (p : α → Bool) (index : α → Nat) (l : List α)
    (b : BitVec w) {j : Nat} (hj : j < w) :
    (l.foldl (fun b x => if p x then putBit b (index x) true else b) b).getLsbD j = true ↔
      b.getLsbD j = true ∨ ∃ x ∈ l, p x = true ∧ j = index x := by
  induction l generalizing b with
  | nil => simp
  | cons x l ih =>
    rw [List.foldl_cons, ih]
    by_cases hp : p x = true
    · rw [if_pos hp, getLsbD_putBit]
      by_cases hx : j = index x
      · simp [hx, hp, hx ▸ hj]
      · simp [hx]
    · simp [hp]

/-- A write of ICDSGIR that raises nothing makes pending only the SGI it names, and that only on
interfaces it is sent to (R281). -/
theorem writeIcdsgir_cases (req : Option Cpu) (ns : Bool) (data : Word) (s : State) :
    (∃ why, writeIcdsgir req ns data s = raise why s) ∨
      ∃ v, writeIcdsgir req ns data s = s.setSgip v ∧
        ∀ c n src, n < 16 → v.getLsbD (sgipIndex c n src) = true →
          s.gic.sgip.getLsbD (sgipIndex c n src) = true ∨
            (sgiSent s ns data c = true ∧ n = (data.extractLsb' 0 4).toNat) := by
  unfold writeIcdsgir
  split
  · exact .inr ⟨s.gic.sgip, rfl, fun _ _ _ _ => .inl⟩
  split
  · exact .inl ⟨_, rfl⟩
  split
  · exact .inl ⟨_, rfl⟩
  refine .inr ⟨_, rfl, fun c n src hn hb => ?_⟩
  rw [getLsbD_foldl_putBit _ _ _ _ (sgipIndex_lt hn)] at hb
  refine hb.imp_right ?_
  rintro ⟨t, -, hsent, hidx⟩
  obtain ⟨rfl, hid, -⟩ := (sgipIndex_inj hn (data.extractLsb' 0 4).isLt).mp hidx
  rw [Bool.and_eq_true] at hsent
  exact ⟨hsent.2, hid⟩

/-- A write of ICCEOIR raises Unpredictable, is ignored, or returns from the interrupt (R319). -/
theorem writeEoi_cases (s : State) (c : Cpu) (ns : Bool) (data : Word) :
    (∃ why, writeEoi s c ns data = raise why s) ∨ writeEoi s c ns data = s ∨
      writeEoi s c ns data = deactivate s c (data.extractLsb' 0 10).toNat := by
  unfold writeEoi
  simp only
  split
  · exact .inr (.inl rfl)
  split
  · exact .inr (.inl rfl)
  split
  · exact .inl ⟨_, rfl⟩
  split
  · exact .inl ⟨_, rfl⟩
  split
  · exact .inl ⟨_, rfl⟩
  split
  · exact .inr (.inl rfl)
  split
  · exact .inl ⟨_, rfl⟩
  · exact .inr (.inr rfl)

/-- Neither an Enable bit nor lockdown changes anything but the two copies of ICDDCR (R162). -/
theorem setEnableBit_cases (ns : Bool) (data : Word) (s : State) :
    setEnableBit ns data s = s ∨ (∃ v, setEnableBit ns data s = s.setDcrS v) ∨
      ∃ v, setEnableBit ns data s = s.setDcrNS v := by
  unfold setEnableBit
  split
  · exact .inr (.inr ⟨_, rfl⟩)
  · split
    · exact .inl rfl
    · exact .inr (.inl ⟨_, rfl⟩)

/-! ### Events -/

/-- What an input event or internal step other than RESET can do while UNPRED is clear. -/
inductive EventEffect (s : State) : Input → State → Prop
  | unchanged (x : Input) : EventEffect s x s
  | inputs (x : Input) (line : Bits) (cfgsdisable : Bool) (legacyIrq legacyFiq : BitVec 8) :
      EventEffect s x { s with
        line := line, cfgsdisable := cfgsdisable, legacyIrq := legacyIrq, legacyFiq := legacyFiq }
  | edge (c : Cpu) (n : Nat) (hn : hasLine s.cfg c n = true) (line : Bits) :
      EventEffect s (.lineRise c n)
        ((s.setLine line).setLatch (putBit s.gic.latch (slot c n) true))
  | evaluated (c : Cpu) : EventEffect s (.evaluate c) (evaluate s c)
  | windowClosed (n : Nat) (hn : 32 ≤ n) (hd : doubleAckAllowed s.cfg = true) :
      EventEffect s (.closeAckWindow n) (closeAckWindow s n)
  | applied : EventEffect s .applyWrite (applyWrite s)

theorem unlessUnpred_eq {s effect : State} (hs : s.unpred = false) :
    unlessUnpred s effect = effect := by
  simp [unlessUnpred, hs]

/-- Everything an event other than RESET that answers a next state can do: UNPRED stays set (R43), or
the event has its effect. -/
def EventOutcome (s : State) (x : Input) (t : State) : Prop :=
  (s.unpred = true ∧ t.unpred = true) ∨ (s.unpred = false ∧ EventEffect s x t)

theorem EventOutcome.unchanged (s : State) (x : Input) : EventOutcome s x s := by
  cases hs : s.unpred with
  | true => exact .inl ⟨hs, hs⟩
  | false => exact .inr ⟨hs, .unchanged x⟩

/-- `u` is the state with the input levels of the event, which change under UNPRED too. -/
theorem EventEffect.outcome {s u e : State} {x : Input} (he : EventEffect s x e)
    (hu : u.unpred = s.unpred) : EventOutcome s x (unlessUnpred u e) := by
  cases hs : s.unpred with
  | true => exact .inl ⟨hs, by simp [unlessUnpred, hu, hs]⟩
  | false => exact .inr ⟨hs, by rw [unlessUnpred_eq (by rw [hu, hs])]; exact he⟩

/-- LINE_RISE of a peripheral interrupt that has a line (R381). -/
theorem lineRise_outcome {s : State} {c : Cpu} {n : Nat} (hn : hasLine s.cfg c n = true) :
    EventOutcome s (.lineRise c n) (lineRise s c n) := by
  unfold lineRise
  split
  · exact .unchanged _ _
  · refine EventEffect.outcome ?_ rfl
    split
    · exact .edge c n hn _
    · exact .inputs _ _ s.cfgsdisable s.legacyIrq s.legacyFiq

/-- LINE_FALL (R382). -/
theorem lineFall_outcome (s : State) (c : Cpu) (n : Nat) :
    EventOutcome s (.lineFall c n) (lineFall s c n) := by
  unfold lineFall
  split
  · exact EventEffect.outcome (.inputs _ _ s.cfgsdisable s.legacyIrq s.legacyFiq) rfl
  · exact .unchanged _ _

/-- CLOSE_ACK_WINDOW(n) empties the window of an SPI where double acknowledge exists (R388). -/
theorem closeAckWindow_effect (s : State) (n : Nat) :
    EventEffect s (.closeAckWindow n)
      (if 32 ≤ n && doubleAckAllowed s.cfg then closeAckWindow s n else s) := by
  split
  · next h =>
    rw [Bool.and_eq_true, decide_eq_true_eq] at h
    exact .windowClosed n h.1 h.2
  · exact .unchanged _

/-- Everything an event can do. -/
theorem event_next {x : Input} {s t : State} (h : event x s = .next t) :
    (x = .reset ∧ t = resetGic s) ∨ EventOutcome s x t := by
  cases x with
  | access | mem => cases h; exact .inr (.unchanged _ _)
  | lineRise c n =>
    simp only [event] at h
    split at h <;> cases h
    next hn => exact .inr (lineRise_outcome hn)
  | lineFall c n =>
    simp only [event] at h
    split at h <;> cases h
    exact .inr (lineFall_outcome s c n)
  | cfgsdisableSet v =>
    cases h
    exact .inr (EventEffect.outcome (.inputs _ s.line v s.legacyIrq s.legacyFiq) rfl)
  | legacyIrq c v =>
    simp only [event] at h
    split at h <;> cases h
    exact .inr (EventEffect.outcome (.inputs _ s.line s.cfgsdisable _ s.legacyFiq) rfl)
  | legacyFiq c v =>
    simp only [event] at h
    split at h <;> cases h
    exact .inr (EventEffect.outcome (.inputs _ s.line s.cfgsdisable s.legacyIrq _) rfl)
  | reset => cases h; exact .inl ⟨rfl, rfl⟩
  | evaluate c =>
    simp only [event] at h
    split at h <;> cases h
    exact .inr (EventEffect.outcome (.evaluated c) rfl)
  | closeAckWindow n => cases h; exact .inr ((closeAckWindow_effect s n).outcome rfl)
  | applyWrite => cases h; exact .inr (EventEffect.applied.outcome rfl)

/-! ### The step -/

/-- Everything a step can do: the idle step, the instruction of an access, or an event (R94, R95). -/
theorem step_next {s t : State} (h : step s = .next t) :
    (s.inputs = [] ∧ t = idle s) ∨
      ∃ x rest, s.inputs = x :: rest ∧
        ((∃ i, x.instr s.cfg = some i ∧ exec i { s with inputs := rest } = .next t) ∨
          event x { s with inputs := rest } = .next t) := by
  cases hq : s.inputs with
  | nil =>
    simp only [step, takeInput, hq] at h
    exact .inl ⟨rfl, by cases h; rfl⟩
  | cons x rest =>
    refine .inr ⟨x, rest, rfl, ?_⟩
    simp only [step, takeInput, hq] at h
    cases x with
    | access aw data =>
      left
      simp only [access] at h
      split at h
      · cases h
      · next i hi => exact ⟨i, by simp [Input.instr, hi, Except.toOption], h⟩
    | mem m =>
      left
      simp only [memAccess] at h
      split at h
      · cases h
      · next aw ha =>
        simp only [access] at h
        split at h
        · cases h
        · next i hi =>
          exact ⟨i, by simp [Input.instr, show memAccessWord s.cfg m = some aw from ha, hi,
            Except.toOption], h⟩
    | _ => exact .inr h

/-- RESET is carried out from any state (R387). -/
theorem step_reset {s : State} {rest : List Input} (hq : s.inputs = .reset :: rest) :
    step s = .next (resetGic { s with inputs := rest }) := by
  simp only [step, takeInput, hq, event]

/-- No step but RESET clears UNPRED (R43). -/
theorem step_keeps_unpred {s t : State} (h : step s = .next t) (hs : s.unpred = true) :
    t.unpred = true ∨ ∃ rest, s.inputs = .reset :: rest := by
  obtain ⟨-, rfl⟩ | ⟨x, rest, hq, ⟨i, -, he⟩ | he⟩ := step_next h
  · exact .inl (by simp [idle, unlessUnpred, hs])
  · exact .inl (exec_keeps_unpred he hs)
  · obtain ⟨rfl, -⟩ | ⟨-, ht⟩ | ⟨hs', -⟩ := event_next he
    · exact .inr ⟨rest, hq⟩
    · exact .inl ht
    · exact absurd (hs.symm.trans hs') (by decide)

/-- What the idle step does while UNPRED is clear, if it raises nothing (log 3). -/
theorem idle_eq {s : State} (hs : s.unpred = false) (ht : (idle s).unpred = false) :
    idle s = evaluateAll (closeAllWindows (applyWrite s)) ∧ (applyWrite s).unpred = false := by
  unfold idle at ht ⊢
  rw [unlessUnpred_eq hs] at ht ⊢
  simp only at ht ⊢
  split at ht
  · next hu => rw [hu] at ht; cases ht
  · next hu => exact ⟨if_neg hu, by simpa using hu⟩

/-- Everything a step can do that starts and ends with UNPRED clear. -/
theorem step_effect {s t : State} (h : step s = .next t) (hs : s.unpred = false)
    (ht : t.unpred = false) :
    (s.inputs = [] ∧ (applyWrite s).unpred = false ∧
        t = evaluateAll (closeAllWindows (applyWrite s))) ∨
      ∃ x rest, s.inputs = x :: rest ∧
        ((x = .reset ∧ t = resetGic { s with inputs := rest }) ∨
          (∃ i, x.instr s.cfg = some i ∧ AccessEffect { s with inputs := rest } i t) ∨
          EventEffect { s with inputs := rest } x t) := by
  obtain ⟨hq, rfl⟩ | ⟨x, rest, hq, ⟨i, hi, he⟩ | he⟩ := step_next h
  · obtain ⟨heq, hu⟩ := idle_eq hs ht
    exact .inl ⟨hq, hu, heq⟩
  · exact .inr ⟨x, rest, hq, .inr (.inl ⟨i, hi, exec_effect he hs ht⟩)⟩
  · refine .inr ⟨x, rest, hq, ?_⟩
    obtain hreset | ⟨hs', -⟩ | ⟨-, he⟩ := event_next he
    · exact .inl hreset
    · exact absurd (hs'.symm.trans hs) (by decide)
    · exact .inr (.inr he)

/-- APPLY_WRITE changes nothing, raises Unpredictable, or has the effect of the oldest write, which
leaves the queue (R391). -/
theorem applyWrite_cases (s : State) :
    applyWrite s = s ∨ (applyWrite s).unpred = true ∨
      ∃ i rest, s.gic.wq = i :: rest ∧ WriteEffect (s.setWq rest) i (applyWrite s) := by
  unfold applyWrite
  cases hq : s.gic.wq with
  | nil => exact .inl rfl
  | cons i rest =>
    right
    obtain ⟨why, hr⟩ | he := performWrite_cases i (s.setWq rest)
    · exact .inl (by simp only [hr, raise_unpred])
    · exact .inr ⟨i, rest, rfl, he⟩

/-! ## The invariants of R56, sorted by the part of the state they are about, and what keeps
them: first each setter, then each operation, then each effect of a step. -/

/-! ### The invariants by part -/

/-- The rules of R56 about the Distributor alone. -/
structure DistOk (cfg : Config) (g : Gic) : Prop where
  pri : ∀ k, getByte g.pri k &&& ~~~ pMask cfg = 0#8
  tgt : ∀ k, getByte g.tgt k &&& ~~~ targetMask cfg = 0#8
  latch : ∀ c n, 16 ≤ n → g.latch.getLsbD (slot c n) = true → implemented cfg c n = true
  sgip : ∀ c n src, n < 16 → cpuExists cfg src = true →
    g.sgip.getLsbD (sgipIndex c n src) = true → implemented cfg c n = true
  queue : writesDelayed cfg = false → g.wq = []

/-- The rules of R56 about one CPU interface alone. -/
structure IfcOk (cfg : Config) (c : Cpu) (i : CpuInterface) : Prop where
  nodup : (i.active.map ActiveEntry.id).Nodup
  active : ∀ e ∈ i.active,
    implemented cfg c e.id = true ∧ e.id ≤ 1019 ∧ cpuExists cfg c = true
  pmr : i.pmr &&& ~~~ pMask cfg = 0#8
  bprS : minimumBinaryPoint cfg ≤ i.bprS.toNat
  bprNS : minimumBinaryPoint cfg ≤ i.bprNS.toNat
  noSecurity : cfg.secext = false →
    i.enableNS = false ∧ i.ackCtl = false ∧ i.fiqEn = false ∧ i.sbpr = false ∧ i.fiq = false
  window : ∀ n, 32 ≤ n → i.ackWindow.getLsbD (slot c n) = true →
    doubleAckAllowed cfg = true ∧ implemented cfg c n = true ∧ cpuExists cfg c = true

/-- The rule of R56(2) that is about several interfaces. -/
def SpiActiveOnce (s : State) : Prop :=
  doubleAckAllowed s.cfg = false → ∀ c d n, 32 ≤ n → act s c n = true → act s d n = true → c = d

theorem act_eq_true {s : State} {c : Cpu} {n : Nat} :
    act s c n = true ↔ ∃ e ∈ (s.ifc c).active, e.id = n := by
  simp [act]

theorem registersOk_iff {s : State} :
    RegistersOk s ↔ DistOk s.cfg s.gic ∧ (∀ c, IfcOk s.cfg c (s.ifc c)) ∧ SpiActiveOnce s := by
  constructor
  · intro h
    obtain ⟨hpri, hpmr⟩ := h.prioritiesMasked
    obtain ⟨hlatch, hsgip, hwindow⟩ := h.pendingImplemented
    refine ⟨⟨hpri, h.targetsExist, hlatch, fun c n src hn hs hb => hsgip c n src ?_, h.queue⟩,
      fun c => ⟨h.activeNodup c, h.activeImplemented c, hpmr c, (h.binaryPoints c).1,
        (h.binaryPoints c).2, fun hx => h.noSecurityState hx c,
        fun n hn hw => ⟨?_, hwindow c n hn hw⟩⟩,
      fun hd c d n hn => (h.activeOnce hd c n hn).1 d⟩
    · simp [sgipOf, hn, hs, hb]
    · by_contra hd
      rw [(h.activeOnce (Bool.not_eq_true _ ▸ hd) c n hn).2] at hw
      cases hw
  · rintro ⟨hd, hi, ho⟩
    refine ⟨fun c => (hi c).nodup, fun hda c n hn => ⟨fun d => ho hda c d n hn, ?_⟩,
      fun c => (hi c).active, ⟨hd.pri, fun c => (hi c).pmr⟩, fun c => ⟨(hi c).bprS, (hi c).bprNS⟩,
      hd.tgt, fun hx c => (hi c).noSecurity hx,
      ⟨hd.latch, fun c n src hs => ?_, fun c n hn hw => ((hi c).window n hn hw).2⟩, hd.queue⟩
    · rw [Bool.eq_false_iff]
      intro hw
      rw [((hi c).window n hn hw).1] at hda
      cases hda
    · simp only [sgipOf, Bool.and_eq_true, decide_eq_true_eq] at hs
      exact hd.sgip c n src hs.1.1 hs.1.2 hs.2

theorem RegistersOk.dist {s : State} (h : RegistersOk s) : DistOk s.cfg s.gic :=
  (registersOk_iff.mp h).1

theorem RegistersOk.ifc {s : State} (h : RegistersOk s) (c : Cpu) : IfcOk s.cfg c (s.ifc c) :=
  (registersOk_iff.mp h).2.1 c

theorem RegistersOk.spiActiveOnce {s : State} (h : RegistersOk s) : SpiActiveOnce s :=
  (registersOk_iff.mp h).2.2

/-! ### Setters -/

/-- A change of the Distributor, the inputs or the model's own fields keeps the invariants if it keeps
those of the Distributor. -/
theorem RegistersOk.of_dist {s t : State} (h : RegistersOk s) (hc : t.cfg = s.cfg)
    (hi : ∀ c, t.ifc c = s.ifc c) (hd : DistOk s.cfg t.gic) : RegistersOk t := by
  refine registersOk_iff.mpr ⟨by rw [hc]; exact hd, fun c => by rw [hc, hi]; exact h.ifc c, ?_⟩
  have ha : ∀ c n, act t c n = act s c n := fun c n => by rw [act, act, hi]
  intro hda c d n
  rw [ha, ha]
  exact h.spiActiveOnce (by rw [← hc]; exact hda) c d n

theorem RegistersOk.respond {s : State} (h : RegistersOk s) (v : Word) : RegistersOk (s.respond v) :=
  h.of_dist rfl (fun _ => rfl) { h.dist with }

theorem RegistersOk.drawn {s : State} (h : RegistersOk s) : RegistersOk s.drawn :=
  h.of_dist rfl (fun _ => rfl) h.dist

theorem RegistersOk.setDcrS {s : State} (h : RegistersOk s) (v : Bool) : RegistersOk (s.setDcrS v) :=
  h.of_dist rfl (fun _ => rfl) { h.dist with }

theorem RegistersOk.setDcrNS {s : State} (h : RegistersOk s) (v : Bool) :
    RegistersOk (s.setDcrNS v) := h.of_dist rfl (fun _ => rfl) { h.dist with }

theorem RegistersOk.setNsb {s : State} (h : RegistersOk s) (v : Bits) : RegistersOk (s.setNsb v) :=
  h.of_dist rfl (fun _ => rfl) { h.dist with }

theorem RegistersOk.setEn {s : State} (h : RegistersOk s) (v : Bits) : RegistersOk (s.setEn v) :=
  h.of_dist rfl (fun _ => rfl) { h.dist with }

theorem RegistersOk.setIcfg {s : State} (h : RegistersOk s) (v : Bits) : RegistersOk (s.setIcfg v) :=
  h.of_dist rfl (fun _ => rfl) { h.dist with }

theorem RegistersOk.setPri {s : State} (h : RegistersOk s) {v : Bytes}
    (hv : ∀ k, getByte v k &&& ~~~ pMask s.cfg = 0#8) : RegistersOk (s.setPri v) :=
  h.of_dist rfl (fun _ => rfl) { h.dist with pri := hv }

theorem RegistersOk.setTgt {s : State} (h : RegistersOk s) {v : Bytes}
    (hv : ∀ k, getByte v k &&& ~~~ targetMask s.cfg = 0#8) : RegistersOk (s.setTgt v) :=
  h.of_dist rfl (fun _ => rfl) { h.dist with tgt := hv }

theorem RegistersOk.setWq {s : State} (h : RegistersOk s) {v : List Instr}
    (hv : writesDelayed s.cfg = false → v = []) : RegistersOk (s.setWq v) :=
  h.of_dist rfl (fun _ => rfl) { h.dist with queue := hv }

/-- A latch that is set must be that of an implemented interrupt, unless it was set before. -/
theorem RegistersOk.setLatch {s : State} (h : RegistersOk s) {v : Bits}
    (hv : ∀ c n, 16 ≤ n → v.getLsbD (slot c n) = true →
      latchOf s c n = true ∨ implemented s.cfg c n = true) : RegistersOk (s.setLatch v) :=
  h.of_dist rfl (fun _ => rfl)
    { h.dist with latch := fun c n hn hb => (hv c n hn hb).elim (h.dist.latch c n hn) id }

/-- A pending SGI must be implemented, unless it was pending before. -/
theorem RegistersOk.setSgip {s : State} (h : RegistersOk s) {v : BitVec 1024}
    (hv : ∀ c n src, n < 16 → v.getLsbD (sgipIndex c n src) = true →
      s.gic.sgip.getLsbD (sgipIndex c n src) = true ∨ implemented s.cfg c n = true) :
    RegistersOk (s.setSgip v) :=
  h.of_dist rfl (fun _ => rfl)
    { h.dist with
      sgip := fun c n src hn hs hb => (hv c n src hn hb).elim (h.dist.sgip c n src hn hs) id }

/-- New interfaces on which nothing becomes active. -/
theorem RegistersOk.setIfcs {s : State} (h : RegistersOk s) {v : Vector CpuInterface 8}
    (hi : ∀ c : Cpu, IfcOk s.cfg c v[c]) (ha : ∀ c : Cpu, v[c].active ⊆ (s.ifc c).active) :
    RegistersOk (s.setIfcs v) := by
  refine registersOk_iff.mpr ⟨{ h.dist with }, hi, fun hd c d n hn hc he => ?_⟩
  have hact : ∀ c, act (s.setIfcs v) c n = true → act s c n = true := by
    intro c hc
    obtain ⟨e, he, hid⟩ := act_eq_true.mp hc
    exact act_eq_true.mpr ⟨e, ha c he, hid⟩
  exact h.spiActiveOnce hd c d n hn (hact c hc) (hact d he)

/-- A new interface on which nothing becomes active. -/
theorem RegistersOk.withIfc {s : State} (h : RegistersOk s) {c : Cpu} {i : CpuInterface}
    (hi : IfcOk s.cfg c i) (ha : i.active ⊆ (s.ifc c).active) : RegistersOk (s.withIfc c i) := by
  have hget : ∀ d : Cpu, (s.gic.ifcs.set c i)[d] = if d = c then i else s.ifc d :=
    State.withIfc_ifc s c (i := i)
  refine h.setIfcs (v := s.gic.ifcs.set c i) (fun d => ?_) (fun d => ?_)
  · rw [hget]
    split
    · next e => rw [e]; exact hi
    · exact h.ifc d
  · rw [hget]
    split
    · next e => rw [e]; exact ha
    · exact List.Subset.refl _

/-! ### Taking an interrupt -/

/-- What is active after an entry has joined AS(c). -/
theorem act_pushActive {s : State} {c d : Cpu} {e : ActiveEntry} {n : Nat} :
    act (pushActive s c e) d n = true ↔ act s d n = true ∨ (d = c ∧ e.id = n) := by
  rw [act, act, pushActive, State.withIfc_ifc]
  by_cases h : d = c
  · simp [h]
  · simp [h]

/-- An entry joins the active list of an interface: it must be implemented and not active there. -/
theorem IfcOk.push {cfg : Config} {c : Cpu} {i : CpuInterface} {e : ActiveEntry} (h : IfcOk cfg c i)
    (hi : implemented cfg c e.id = true) (hc : cpuExists cfg c = true)
    (hn : e.id ∉ i.active.map ActiveEntry.id) :
    IfcOk cfg c { i with active := i.active ++ [e] } :=
  { h with
    nodup := by
      rw [List.map_append]
      exact List.nodup_append'.mpr ⟨h.nodup, List.nodup_singleton _,
        List.disjoint_singleton.mpr hn⟩
    active := fun e' he' => by
      obtain hold | hnew := List.mem_append.mp he'
      · exact h.active e' hold
      · rw [List.mem_singleton.mp hnew]
        exact ⟨hi, Nat.le_of_lt_succ (implemented_lt hi), hc⟩ }

/-- An SPI that was active nowhere is active on one interface after it has joined AS(c). -/
theorem SpiActiveOnce.pushActive {s : State} (h : SpiActiveOnce s) {c : Cpu} {e : ActiveEntry}
    (ha : doubleAckAllowed s.cfg = false → 32 ≤ e.id → actAny s e.id = false) :
    SpiActiveOnce (pushActive s c e) := by
  intro hd d d' n hn hact hact'
  have hnowhere : ∀ d, e.id = n → act s d n ≠ true := fun d hid hact => by
    have hany := act_actAny hact
    rw [← hid, ha hd (by omega)] at hany
    cases hany
  obtain hold | ⟨rfl, hid⟩ := act_pushActive.mp hact
  · obtain hold' | ⟨rfl, hid⟩ := act_pushActive.mp hact'
    · exact h hd d d' n hn hold hold'
    · exact absurd hold (hnowhere d hid)
  · obtain hold' | ⟨rfl, -⟩ := act_pushActive.mp hact'
    · exact absurd hold' (hnowhere d' hid)
    · rfl

/-- An interrupt becomes active on interface c: it must be implemented, not active there, and, without
double acknowledge, active nowhere if it is an SPI (R56). -/
theorem RegistersOk.pushActive {s : State} (h : RegistersOk s) {c : Cpu} {e : ActiveEntry}
    (hi : implemented s.cfg c e.id = true) (hc : cpuExists s.cfg c = true)
    (hn : act s c e.id = false)
    (ha : doubleAckAllowed s.cfg = false → 32 ≤ e.id → actAny s e.id = false) :
    RegistersOk (pushActive s c e) := by
  have hnew : e.id ∉ (s.ifc c).active.map ActiveEntry.id := by
    intro hm
    rw [act_eq_true.mpr (List.mem_map.mp hm)] at hn
    cases hn
  refine registersOk_iff.mpr ⟨{ h.dist with }, fun d => ?_, h.spiActiveOnce.pushActive ha⟩
  rw [Machine.pushActive, State.withIfc_ifc]
  split
  · next hdc => rw [hdc]; exact (h.ifc c).push hi hc hnew
  · exact h.ifc d

/-- Clearing what is pending keeps the invariants (R431). -/
theorem RegistersOk.clearPending {s : State} (h : RegistersOk s) (c : Cpu) (p : IntRef) :
    RegistersOk (clearPending s c p) := by
  unfold Machine.clearPending
  split
  · refine h.setSgip fun d n src _ hb => .inl ?_
    rw [getLsbD_putBit] at hb
    split at hb
    · cases hb
    · exact hb
  · refine h.setLatch fun d n _ hb => .inl ?_
    rw [getLsbD_putBit] at hb
    split at hb
    · cases hb
    · exact hb

/-- A window of an SPI may hold existing interfaces, where double acknowledge is allowed (R441). -/
theorem RegistersOk.setAckWindow {s : State} (h : RegistersOk s) {n : Nat} {w : Cpu → Bool}
    (hd : doubleAckAllowed s.cfg = true)
    (hw : ∀ c, w c = true → implemented s.cfg c n = true ∧ cpuExists s.cfg c = true) :
    RegistersOk (setAckWindow s n w) := by
  refine h.setIfcs (fun c => ?_) (fun c => by rw [getElem_perCpu]; exact List.Subset.refl _)
  rw [getElem_perCpu]
  refine { h.ifc c with window := fun m hm hb => ⟨hd, ?_⟩ }
  simp only [getLsbD_putBit, slot_inj] at hb
  split at hb
  · next hs => rw [hs.1.1]; exact hw c hb
  · exact ((h.ifc c).window m hm hb).2

/-- The interfaces an acknowledge puts into a window exist and have the interrupt (R431). -/
theorem opensWindowFor_implemented {s : State} {c d : Cpu} {n : Nat}
    (h : opensWindowFor s c n d = true) :
    implemented s.cfg d n = true ∧ cpuExists s.cfg d = true := by
  simp only [opensWindowFor, Bool.and_eq_true, List.contains_iff_mem] at h
  exact ⟨cand_implemented (mem_topCands.mp h.1.2).1, h.1.1.2⟩

theorem RegistersOk.closeOwnWindows {s : State} (h : RegistersOk s) (c : Cpu) :
    RegistersOk (closeOwnWindows s c) :=
  h.withIfc { h.ifc c with window := fun n _ hb => by simp at hb } (List.Subset.refl _)

theorem act_eq_of_active_eq {s t : State} {c : Cpu} (h : (t.ifc c).active = (s.ifc c).active)
    (n : Nat) : act t c n = act s c n := by
  rw [act, act, h]

theorem closeOwnWindows_active (s : State) (c d : Cpu) :
    ((closeOwnWindows s c).ifc d).active = (s.ifc d).active := by
  rw [closeOwnWindows, State.withIfc_ifc]
  split
  · next h => rw [h]
  · rfl

theorem actAny_eq_of_active_eq {s t : State} (h : ∀ c, (t.ifc c).active = (s.ifc c).active)
    (n : Nat) : actAny t n = actAny s n := by
  simp only [actAny, act_eq_of_active_eq (h _)]

/-- An SPI that is a candidate is active on no interface (R423). -/
theorem cand_not_actAny {s : State} {c : Cpu} {p : IntRef} (h : isCand s c p = true)
    (hn : 32 ≤ p.id) : actAny s p.id = false := by
  have hsgi : ¬ p.id < 16 := by omega
  simp only [isCand, if_neg hsgi, cand, if_pos hn, Bool.and_eq_true, Bool.not_eq_true'] at h
  exact h.2.2

/-- Taking an interrupt that is implemented and not active keeps the invariants (R431). -/
theorem RegistersOk.acknowledge {s : State} (h : RegistersOk s) {c : Cpu} {p : IntRef}
    (hi : implemented s.cfg c p.id = true) (hc : cpuExists s.cfg c = true)
    (hn : act s c p.id = false) (ha : 32 ≤ p.id → actAny s p.id = false) :
    RegistersOk (acknowledge s c p) := by
  have htake : ∀ u, RegistersOk u → u.cfg = s.cfg →
      (∀ d, (u.ifc d).active = (s.ifc d).active) →
      RegistersOk (Machine.pushActive (Machine.clearPending u c p) c
        { id := p.id, src := p.src, pri := priOf s c p.id }) := by
    intro u hok hcfg hact
    have hact' : ∀ d, ((Machine.clearPending u c p).ifc d).active = (s.ifc d).active := fun d => by
      rw [clearPending_ifc, hact]
    refine (hok.clearPending c p).pushActive ?_ ?_ ?_ fun _ h32 => ?_
    · rw [clearPending_cfg, hcfg]; exact hi
    · rw [clearPending_cfg, hcfg]; exact hc
    · rw [act_eq_of_active_eq (hact' c)]; exact hn
    · rw [actAny_eq_of_active_eq hact']; exact ha h32
  unfold Machine.acknowledge
  simp only
  split
  · next hw =>
    rw [Bool.and_eq_true] at hw
    exact htake _ (h.setAckWindow hw.2 fun _ => opensWindowFor_implemented) rfl
      (setAckWindow_active s p.id _)
  · exact htake s h rfl fun _ => rfl

/-- What a read of ICCIAR obtains through a window (R441). -/
theorem windowSpi_some {s : State} {c : Cpu} {ns : Bool} {n : Nat} (h : windowSpi s c ns = some n) :
    doubleAckAllowed s.cfg = true ∧ 32 ≤ n ∧ (s.ifc c).ackWindow.getLsbD (slot c n) = true ∧
      act s c n = false := by
  unfold windowSpi at h
  split at h
  · cases h
  next hd =>
  split at h
  · cases h
  next m ms hm =>
  split at h
  · cases h
  split at h
  · cases h
  next k hk =>
  split at h
  · next hcond =>
    cases h
    have hmem : n ∈ openWindows s c := by rw [hm]; exact choose_mem hk
    simp only [openWindows, List.mem_filter, List.mem_map, List.mem_range] at hmem
    obtain ⟨⟨j, -, rfl⟩, hb⟩ := hmem
    simp only [Bool.and_eq_true, Bool.not_eq_true'] at hcond
    exact ⟨by simpa using hd, by omega, hb, hcond.1.1⟩
  · cases h

/-- What a read of ICCIAR obtains otherwise is HPPI(c) (R432). -/
theorem iarValue_valid {s : State} {c : Cpu} {ns : Bool} {p : IntRef}
    (h : iarValue s c ns = .valid p) : hppi s c = some p := by
  unfold iarValue at h
  split at h
  · cases h
  next q hq =>
  split at h
  · unfold iarSecurity at h
    split at h
    · cases h
    split at h
    · cases h
    · cases h; exact hq
  · cases h

/-- The read of ICCIAR keeps the invariants (R317). -/
theorem RegistersOk.readIar {s : State} (h : RegistersOk s) {c : Cpu}
    (hc : cpuExists s.cfg c = true) (ns : Bool) : RegistersOk (readIar s c ns) := by
  have hclose := h.closeOwnWindows c
  have hact := closeOwnWindows_active s c
  unfold Machine.readIar
  simp only
  split
  · next n hw =>
    obtain ⟨hd, h32, hb, hn⟩ := windowSpi_some hw
    refine (hclose.pushActive ?_ hc ?_ fun hd' => ?_).respond _
    · exact ((h.ifc c).window n h32 hb).2.1
    · rw [act_eq_of_active_eq (hact c)]; exact hn
    · exact absurd (hd.symm.trans hd') (by decide)
  · split
    · exact hclose.respond _
    · exact hclose.respond _
    · next p hp =>
      have hcand : isCand s c p = true := (mem_topCands.mp (hppi_mem (iarValue_valid hp))).1
      have hi : implemented s.cfg c p.id = true := cand_implemented hcand
      refine (hclose.acknowledge hi hc ?_ fun h32 => ?_).respond _
      · rw [act_eq_of_active_eq (hact c)]; exact cand_not_act hcand
      · rw [actAny_eq_of_active_eq hact]; exact cand_not_actAny hcand h32

/-! ### Returning from an interrupt, windows and outputs -/

theorem RegistersOk.deactivate {s : State} (h : RegistersOk s) (c : Cpu) (n : Nat) :
    RegistersOk (deactivate s c n) := by
  have hok : IfcOk s.cfg c
      { s.ifc c with active := (s.ifc c).active.filter fun e => decide (e.id ≠ n) } :=
    { h.ifc c with
      nodup := (h.ifc c).nodup.sublist (List.filter_sublist.map _)
      active := fun e he => (h.ifc c).active e (List.mem_filter.mp he).1 }
  have h₁ := h.withIfc hok (List.filter_subset_self _)
  unfold Machine.deactivate
  simp only
  split
  · next hw =>
    rw [Bool.and_eq_true] at hw
    exact h₁.setAckWindow hw.2 fun _ hf => by cases hf
  · exact h₁

theorem RegistersOk.closeAllWindows {s : State} (h : RegistersOk s) :
    RegistersOk (closeAllWindows s) := by
  refine h.setIfcs (fun c => ?_) (fun c => by rw [getElem_perCpu]; exact List.Subset.refl _)
  rw [getElem_perCpu]
  exact { h.ifc c with window := fun n _ hb => by simp at hb }

theorem RegistersOk.evaluate {s : State} (h : RegistersOk s) (c : Cpu) :
    RegistersOk (evaluate s c) := by
  have hsame := List.Subset.refl (s.ifc c).active
  unfold Machine.evaluate
  simp only
  split
  · next hx =>
    refine RegistersOk.drawn (h.withIfc { h.ifc c with noSecurity := fun hx' => ?_ } hsame)
    exact absurd (hx.symm.trans hx') (by decide)
  · exact RegistersOk.drawn (h.withIfc { h.ifc c with } hsame)

/-- What every evaluation keeps, the evaluation of all interfaces keeps. -/
theorem evaluateAll_induction {P : State → Prop} (hP : ∀ s c, P s → P (evaluate s c)) {s : State}
    (h : P s) : P (evaluateAll s) := by
  unfold evaluateAll
  generalize List.finRange 8 = l
  induction l generalizing s with
  | nil => exact h
  | cons c l ih =>
    rw [List.foldl_cons]
    split
    · exact ih (hP s c h)
    · exact ih h

/-! ### Writes of a CPU interface -/

theorem and_not_of_masked (v m : Byte) : (v &&& m) &&& ~~~ m = 0#8 := by
  rw [BitVec.and_assoc, BitVec.and_not_self]
  exact BitVec.and_zero

theorem minBinaryPoint_toNat (cfg : Config) :
    (cfg.minBinaryPoint.setWidth 3).toNat = minimumBinaryPoint cfg :=
  BitVec.toNat_setWidth_of_le (by decide)

theorem minBinaryPoint_le_stored (cfg : Config) (data : Word) :
    minimumBinaryPoint cfg ≤ (binaryPointStored cfg data).toNat := by
  unfold binaryPointStored
  simp only
  split
  · exact (minBinaryPoint_toNat cfg).ge
  · omega

theorem RegistersOk.writeIccicr {s : State} (h : RegistersOk s) (c : Cpu) (ns : Bool) (data : Word) :
    RegistersOk (writeIccicr c ns data s) := by
  have hsame := List.Subset.refl (s.ifc c).active
  unfold Machine.writeIccicr
  simp only
  split
  · exact h.withIfc { h.ifc c with } hsame
  next hx =>
  have hsec : s.cfg.secext = false → False := fun hx' => hx (by rw [hx']; rfl)
  split
  · exact h.withIfc { h.ifc c with noSecurity := fun hx' => (hsec hx').elim } hsame
  split
  · exact h.withIfc { h.ifc c with noSecurity := fun hx' => (hsec hx').elim } hsame
  · exact h.withIfc { h.ifc c with noSecurity := fun hx' => (hsec hx').elim } hsame

theorem RegistersOk.writeIccpmr {s : State} (h : RegistersOk s) (c : Cpu) (ns : Bool) (data : Word) :
    RegistersOk (writeIccpmr c ns data s) := by
  have hpmr : ∀ v, v &&& ~~~ pMask s.cfg = 0#8 →
      RegistersOk (s.withIfc c { s.ifc c with pmr := v }) := fun v hv =>
    h.withIfc { h.ifc c with pmr := hv } (List.Subset.refl _)
  unfold Machine.writeIccpmr
  split
  · split
    · exact hpmr _ (and_not_of_masked _ _)
    · exact h
  · exact hpmr _ (and_not_of_masked _ _)

theorem RegistersOk.setBprNS {s : State} (h : RegistersOk s) (c : Cpu) (data : Word) :
    RegistersOk (s.withIfc c { s.ifc c with bprNS := binaryPointStored s.cfg data }) :=
  h.withIfc { h.ifc c with bprNS := minBinaryPoint_le_stored _ _ } (List.Subset.refl _)

theorem RegistersOk.writeIccbpr {s : State} (h : RegistersOk s) (c : Cpu) (ns : Bool) (data : Word) :
    RegistersOk (writeIccbpr c ns data s) := by
  unfold Machine.writeIccbpr
  split
  · exact h.setBprNS c data
  · exact h.withIfc { h.ifc c with bprS := minBinaryPoint_le_stored _ _ } (List.Subset.refl _)

theorem RegistersOk.writeIccabpr {s : State} (h : RegistersOk s) (c : Cpu) (ns : Bool)
    (data : Word) : RegistersOk (writeIccabpr c ns data s) := by
  unfold Machine.writeIccabpr
  split
  · exact h.setBprNS c data
  · exact h

/-! ### Writes of the Distributor -/

/-- A bitmap write acts on implemented interrupts only (R105, R110). -/
theorem bitmapTargets_implemented {s : State} {req : Option Cpu} {ns : Bool} {m : Nat} {data : Word}
    {further : Cpu → Nat → Bool} {c : Cpu} {n : Nat}
    (h : (bitmapTargets s req ns m data further).getLsbD (slot c n) = true) :
    implemented s.cfg c n = true := by
  by_contra hi
  have hw : ∀ d, slot d n = slot c n → writable s d n ns = false := by
    intro d hs
    have hd : implemented s.cfg d n = false := by
      rw [← Bool.not_eq_true]
      intro hd
      by_cases hn : n < 32
      · rw [(slot_inj.mp hs).2 hn] at hd; exact hi hd
      · rw [implemented_spi s.cfg d c (by omega)] at hd; exact hi hd
    simp [writable, visible, hd]
  rw [bitmapTargets_eq_false hw] at h
  cases h

theorem RegistersOk.writeIcdispr {s : State} (h : RegistersOk s) (req : Option Cpu) (ns : Bool)
    (m : Nat) (data : Word) : RegistersOk (writeIcdispr req ns m data s) := by
  refine h.setLatch fun c n _ hb => ?_
  rw [BitVec.getLsbD_or, Bool.or_eq_true] at hb
  exact hb.imp_right bitmapTargets_implemented

theorem RegistersOk.writeIcdicpr {s : State} (h : RegistersOk s) (req : Option Cpu) (ns : Bool)
    (m : Nat) (data : Word) : RegistersOk (writeIcdicpr req ns m data s) := by
  refine h.setLatch fun c n _ hb => .inl ?_
  rw [BitVec.getLsbD_and, Bool.and_eq_true] at hb
  exact hb.1

theorem RegistersOk.writeIcdipr {s : State} (h : RegistersOk s) (a : DistArgs) (m : Nat)
    (data : Word) : RegistersOk (writeIcdipr a m data s) := by
  refine h.setPri (writeBytes_forall (p := fun b => b &&& ~~~ pMask s.cfg = 0#8) (fun b => ?_)
    h.dist.pri)
  unfold icdiprStored
  split <;> exact and_not_of_masked _ _

theorem RegistersOk.writeIcdiptr {s : State} (h : RegistersOk s) (a : DistArgs) (m : Nat)
    (data : Word) : RegistersOk (writeIcdiptr a m data s) :=
  h.setTgt (writeBytes_forall (p := fun b => b &&& ~~~ targetMask s.cfg = 0#8)
    (fun _ => and_not_of_masked _ _) h.dist.tgt)

/-- A latch set at an enable is that of an implemented interrupt (R162). -/
theorem risesAtEnable_implemented {s t : State} {c : Cpu} {n : Nat}
    (h : risesAtEnable s t (slot c n) = true) : implemented t.cfg c n = true := by
  simp only [risesAtEnable, slotId_slot, slotCpu_slot, Bool.and_eq_true] at h
  obtain ⟨⟨⟨⟨⟨-, hi⟩, _⟩, _⟩, _⟩, _⟩ := h
  by_cases hn : n < 32
  · rwa [if_pos hn] at hi
  · rwa [if_neg hn, implemented_spi t.cfg 0 c (by omega)] at hi

theorem RegistersOk.writeIcddcr {s : State} (h : RegistersOk s) (ns : Bool) (data : Word) :
    RegistersOk (writeIcddcr ns data s) := by
  have hset : RegistersOk (setEnableBit ns data s) := by
    obtain he | ⟨v, he⟩ | ⟨v, he⟩ := setEnableBit_cases ns data s <;> rw [he]
    · exact h
    · exact h.setDcrS v
    · exact h.setDcrNS v
  unfold Machine.writeIcddcr
  simp only
  split
  · refine hset.setLatch fun c n _ hb => ?_
    rw [BitVec.getLsbD_or, Bool.or_eq_true, getLsbD_bitsOf, Bool.and_eq_true] at hb
    exact hb.imp_right fun hr => risesAtEnable_implemented hr.2
  · exact hset

/-! ### Effects -/

/-- Performing a Distributor write keeps the invariants. -/
theorem WriteEffect.registersOk {s t : State} {i : Instr} (he : WriteEffect s i t)
    (ht : t.unpred = false) (h : RegistersOk s) : RegistersOk t := by
  cases he with
  | ignored => exact h
  | icddcr a data => exact h.writeIcddcr a.ns data
  | icdisr m a data =>
    obtain ⟨why, hr⟩ | ⟨v, hv⟩ := writeIcdisr_cases (sourceId s.cfg a.req) a.ns m.toNat data s
    · rw [hr] at ht; cases ht
    · rw [hv]; exact h.setNsb v
  | icdiser => exact h.setEn _
  | icdicer => exact h.setEn _
  | icdispr m a data => exact h.writeIcdispr _ a.ns m.toNat data
  | icdicpr m a data => exact h.writeIcdicpr _ a.ns m.toNat data
  | icdipr m a data => exact h.writeIcdipr a m.toNat data
  | icdiptrPriv m a data => exact h.writeIcdiptr a m.toNat data
  | icdiptrSpi m a data => exact h.writeIcdiptr a m.toNat data
  | icdicfr m a data =>
    obtain ⟨why, hr⟩ | ⟨v, hv⟩ := writeIcdicfr_cases (sourceId s.cfg a.req) a.ns m.toNat data s
    · rw [hr] at ht; cases ht
    · rw [hv]; exact h.setIcfg v
  | icdsgir a data =>
    obtain ⟨why, hr⟩ | ⟨v, hv, hsent⟩ := writeIcdsgir_cases (sourceId s.cfg a.req) a.ns data s
    · rw [hr] at ht; cases ht
    · rw [hv]
      refine h.setSgip fun c n src hn hb => (hsent c n src hn hb).imp_right ?_
      rintro ⟨hsgi, rfl⟩
      simp only [sgiSent, Bool.and_eq_true] at hsgi
      exact hsgi.1

/-- An access keeps the invariants. -/
theorem AccessEffect.registersOk {s t : State} {i : Instr} (he : AccessEffect s i t)
    (ht : t.unpred = false) (h : RegistersOk s) : RegistersOk t := by
  cases he with
  | queued _ hd => exact h.setWq fun hd' => absurd (hd.symm.trans hd') (by decide)
  | performed hw => exact hw.registersOk ht h
  | ignored => exact h
  | read _ v => exact h.respond v
  | readDrawn _ v => exact (h.respond v).drawn
  | iccicr a data => exact h.writeIccicr a.ifc a.ns data
  | iccpmr a data => exact h.writeIccpmr a.ifc a.ns data
  | iccbpr a data => exact h.writeIccbpr a.ifc a.ns data
  | iccabpr a data => exact h.writeIccabpr a.ifc a.ns data
  | icciar a hc => exact (h.readIar hc a.ns).drawn
  | icceoir a data =>
    obtain ⟨why, hr⟩ | hs | hs := writeEoi_cases s a.ifc a.ns data
    · rw [hr] at ht; cases ht
    · rw [hs]; exact h
    · rw [hs]; exact h.deactivate a.ifc _

/-- APPLY_WRITE keeps the invariants: a queue with a write in it exists only where writes are
delayed (R391). -/
theorem RegistersOk.applyWrite {s : State} (h : RegistersOk s)
    (ht : (applyWrite s).unpred = false) : RegistersOk (applyWrite s) := by
  obtain hs | hu | ⟨i, rest, hq, he⟩ := applyWrite_cases s
  · rw [hs]; exact h
  · rw [ht] at hu; cases hu
  · refine he.registersOk ht (h.setWq fun hd => ?_)
    have hnil := h.dist.queue hd
    rw [hq] at hnil
    cases hnil

/-- An event other than RESET keeps the invariants. -/
theorem EventEffect.registersOk {s t : State} {x : Input} (he : EventEffect s x t)
    (ht : t.unpred = false) (h : RegistersOk s) : RegistersOk t := by
  cases he with
  | unchanged => exact h
  | inputs => exact h.of_dist rfl (fun _ => rfl) h.dist
  | edge c n hn line =>
    have hline : RegistersOk (s.setLine line) := h.of_dist rfl (fun _ => rfl) h.dist
    refine hline.setLatch fun d m _ hb => ?_
    rw [getLsbD_putBit] at hb
    split at hb
    · next hs =>
      obtain ⟨rfl, hcd⟩ := slot_inj.mp hs.1
      simp only [hasLine, Bool.and_eq_true] at hn
      right
      by_cases hm : m < 32
      · rw [hcd hm]; exact hn.2
      · exact (implemented_spi s.cfg d c (by omega)).trans hn.2
    · exact .inl hb
  | evaluated c => exact h.evaluate c
  | windowClosed n _ hd => exact h.setAckWindow hd fun _ hf => by cases hf
  | applied => exact h.applyWrite ht

/-! ### Reset -/

theorem distOk_reset (cfg : Config) : DistOk cfg (Gic.reset cfg) where
  pri k := by simp
  tgt k := by simp
  latch c n _ hb := by simp at hb
  sgip c n src _ _ hb := by simp at hb
  queue _ := rfl

theorem ifcOk_reset (cfg : Config) (c : Cpu) : IfcOk cfg c (CpuInterface.reset cfg) where
  nodup := List.nodup_nil
  active _ he := by cases he
  pmr := by simp
  bprS := (minBinaryPoint_toNat cfg).ge
  bprNS := (minBinaryPoint_toNat cfg).ge
  noSecurity _ := ⟨rfl, rfl, rfl, rfl, rfl⟩
  window n _ hb := by simp at hb

/-- Every state with the registers of a reset meets the invariants, whatever its inputs. -/
theorem registersOk_of_reset {s : State} (hg : s.gic = Gic.reset s.cfg) : RegistersOk s := by
  have hifc : ∀ c, s.ifc c = CpuInterface.reset s.cfg := fun c => by
    rw [State.ifc, hg, gicReset_ifcs]
  refine registersOk_iff.mpr ⟨by rw [hg]; exact distOk_reset s.cfg,
    fun c => by rw [hifc]; exact ifcOk_reset s.cfg c, fun _ c d n _ hact => ?_⟩
  rw [act, hifc] at hact
  cases hact

/-! ## The invariants of R56 hold after reset and are kept by every step. -/

/-- Settles O53: every effect of a step keeps the invariants of each part of the state, and a step that
starts with UNPRED set keeps it set or is RESET. -/
theorem invariantKept : Obligations.InvariantKept := by
  intro s t hinv hstep ht
  cases hs : s.unpred with
  | true =>
    obtain hu | ⟨rest, hq⟩ := step_keeps_unpred hstep hs
    · exact absurd (hu.symm.trans ht) (by decide)
    · rw [step_reset hq] at hstep
      cases hstep
      exact registersOk_of_reset rfl
  | false =>
    have hok : RegistersOk s := hinv hs
    have hrest : ∀ rest, RegistersOk { s with inputs := rest } := fun _ =>
      hok.of_dist rfl (fun _ => rfl) hok.dist
    obtain ⟨-, hu, heq⟩ | ⟨x, rest, -, ⟨-, rfl⟩ | ⟨i, -, he⟩ | he⟩ := step_effect hstep hs ht
    · rw [heq]
      exact evaluateAll_induction (fun u c hu => hu.evaluate c) (hok.applyWrite hu).closeAllWindows
    · exact registersOk_of_reset rfl
    · exact he.registersOk ht (hrest rest)
    · exact he.registersOk ht (hrest rest)

/-- Settles O54: every part of the reset state meets its invariants. -/
theorem invariantAtReset : Obligations.InvariantAtReset :=
  ⟨fun cfg _ => registersOk_of_reset (resetWith_gic cfg),
    fun _ => registersOk_of_reset (resetWith_gic referenceConfig)⟩

/-- Settles O55: no access, no event but RESET, and not the idle step clears UNPRED. -/
theorem unpredictableUntilReset : Obligations.UnpredictableUntilReset :=
  fun _ _ hs hstep => step_keeps_unpred hstep hs

/-! ## Which operations leave IRQ(c) and FIQ(c) as they are. -/

/-- IRQ(c) and FIQ(c) (R40) are the same in two states. -/
def SameOutputs (s t : State) (c : Cpu) : Prop :=
  (t.ifc c).irq = (s.ifc c).irq ∧ (t.ifc c).fiq = (s.ifc c).fiq

theorem SameOutputs.of_ifc_eq {s t : State} {c : Cpu} (h : t.ifc c = s.ifc c) :
    SameOutputs s t c := by
  unfold SameOutputs
  rw [h]
  exact ⟨rfl, rfl⟩

theorem SameOutputs.trans {s t u : State} {c : Cpu} (h : SameOutputs s t c)
    (h' : SameOutputs t u c) : SameOutputs s u c :=
  ⟨h'.1.trans h.1, h'.2.trans h.2⟩

/-- A new value of the other fields of an interface. -/
theorem SameOutputs.withIfc (s : State) {d : Cpu} {i : CpuInterface} (c : Cpu)
    (hirq : i.irq = (s.ifc d).irq := by rfl) (hfiq : i.fiq = (s.ifc d).fiq := by rfl) :
    SameOutputs s (s.withIfc d i) c := by
  unfold SameOutputs
  rw [State.withIfc_ifc]
  split
  · next h => rw [h]; exact ⟨hirq, hfiq⟩
  · exact ⟨rfl, rfl⟩

theorem sameOutputs_setAckWindow (s : State) (n : Nat) (w : Cpu → Bool) (c : Cpu) :
    SameOutputs s (setAckWindow s n w) c := by
  unfold SameOutputs
  rw [setAckWindow_ifc]
  exact ⟨rfl, rfl⟩

theorem sameOutputs_pushActive (s : State) (d : Cpu) (e : ActiveEntry) (c : Cpu) :
    SameOutputs s (pushActive s d e) c := .withIfc s c

theorem sameOutputs_closeOwnWindows (s : State) (d c : Cpu) :
    SameOutputs s (closeOwnWindows s d) c := .withIfc s c

theorem sameOutputs_acknowledge (s : State) (d : Cpu) (p : IntRef) (c : Cpu) :
    SameOutputs s (acknowledge s d p) c := by
  have htake : ∀ u, SameOutputs s u c → SameOutputs s (pushActive (clearPending u d p) d
      { id := p.id, src := p.src, pri := priOf s d p.id }) c := fun u hu =>
    (hu.trans (.of_ifc_eq (clearPending_ifc u d p c))).trans (sameOutputs_pushActive _ d _ c)
  unfold acknowledge
  simp only
  split
  · exact htake _ (sameOutputs_setAckWindow s p.id _ c)
  · exact htake s ⟨rfl, rfl⟩

/-- A read of ICCIAR asserts and deasserts nothing (R317). -/
theorem sameOutputs_readIar (s : State) (d : Cpu) (ns : Bool) (c : Cpu) :
    SameOutputs s (readIar s d ns) c := by
  have hclose := sameOutputs_closeOwnWindows s d c
  unfold readIar
  simp only
  split
  · exact hclose.trans (sameOutputs_pushActive _ d _ c)
  split
  · exact hclose
  · exact hclose
  · next p _ => exact hclose.trans (sameOutputs_acknowledge _ d p c)

theorem sameOutputs_deactivate (s : State) (d : Cpu) (n : Nat) (c : Cpu) :
    SameOutputs s (deactivate s d n) c := by
  have hactive : SameOutputs s (s.withIfc d { s.ifc d with
      active := (s.ifc d).active.filter fun e => decide (e.id ≠ n) }) c := .withIfc s c
  unfold deactivate
  simp only
  split
  · exact hactive.trans (sameOutputs_setAckWindow _ n _ c)
  · exact hactive

theorem sameOutputs_writeIccicr (s : State) (d : Cpu) (ns : Bool) (data : Word) (c : Cpu) :
    SameOutputs s (writeIccicr d ns data s) c := by
  unfold writeIccicr
  simp only
  split
  · exact .withIfc s c
  split
  · exact .withIfc s c
  split
  · exact .withIfc s c
  · exact .withIfc s c

theorem sameOutputs_writeIccpmr (s : State) (d : Cpu) (ns : Bool) (data : Word) (c : Cpu) :
    SameOutputs s (writeIccpmr d ns data s) c := by
  unfold writeIccpmr
  split
  · split
    · exact .withIfc s c
    · exact ⟨rfl, rfl⟩
  · exact .withIfc s c

theorem sameOutputs_writeIccbpr (s : State) (d : Cpu) (ns : Bool) (data : Word) (c : Cpu) :
    SameOutputs s (writeIccbpr d ns data s) c := by
  unfold writeIccbpr
  split
  · exact .withIfc s c
  · exact .withIfc s c

theorem sameOutputs_writeIccabpr (s : State) (d : Cpu) (ns : Bool) (data : Word) (c : Cpu) :
    SameOutputs s (writeIccabpr d ns data s) c := by
  unfold writeIccabpr
  split
  · exact .withIfc s c
  · exact ⟨rfl, rfl⟩

/-- An evaluation of another interface (R385). -/
theorem sameOutputs_evaluate (s : State) {c d : Cpu} (h : c ≠ d) :
    SameOutputs s (evaluate s d) c := by
  refine .of_ifc_eq ?_
  unfold evaluate
  simp only
  split
  · exact State.withIfc_ifc_ne s _ h
  · exact State.withIfc_ifc_ne s _ h

/-- A Distributor write that raises nothing changes no interface. -/
theorem WriteEffect.ifc_eq {s t : State} {i : Instr} (he : WriteEffect s i t)
    (ht : t.unpred = false) (c : Cpu) : t.ifc c = s.ifc c := by
  cases he with
  | ignored | icdiser | icdicer | icdispr | icdicpr | icdipr | icdiptrPriv | icdiptrSpi => rfl
  | icddcr a data =>
    have hset : (setEnableBit a.ns data s).ifc c = s.ifc c := by
      obtain he | ⟨v, he⟩ | ⟨v, he⟩ := setEnableBit_cases a.ns data s <;> rw [he] <;> rfl
    unfold writeIcddcr
    simp only
    split
    · exact hset
    · exact hset
  | icdisr m a data =>
    obtain ⟨why, hr⟩ | ⟨v, hv⟩ := writeIcdisr_cases (sourceId s.cfg a.req) a.ns m.toNat data s
    · rw [hr] at ht; cases ht
    · rw [hv]; rfl
  | icdicfr m a data =>
    obtain ⟨why, hr⟩ | ⟨v, hv⟩ := writeIcdicfr_cases (sourceId s.cfg a.req) a.ns m.toNat data s
    · rw [hr] at ht; cases ht
    · rw [hv]; rfl
  | icdsgir a data =>
    obtain ⟨why, hr⟩ | ⟨v, hv, -⟩ := writeIcdsgir_cases (sourceId s.cfg a.req) a.ns data s
    · rw [hr] at ht; cases ht
    · rw [hv]; rfl

/-- No access changes an output. -/
theorem AccessEffect.sameOutputs {s t : State} {i : Instr} (he : AccessEffect s i t)
    (ht : t.unpred = false) (c : Cpu) : SameOutputs s t c := by
  cases he with
  | queued | ignored | read | readDrawn => exact ⟨rfl, rfl⟩
  | performed hw => exact .of_ifc_eq (hw.ifc_eq ht c)
  | iccicr a data => exact sameOutputs_writeIccicr s a.ifc a.ns data c
  | iccpmr a data => exact sameOutputs_writeIccpmr s a.ifc a.ns data c
  | iccbpr a data => exact sameOutputs_writeIccbpr s a.ifc a.ns data c
  | iccabpr a data => exact sameOutputs_writeIccabpr s a.ifc a.ns data c
  | icciar a _ => exact sameOutputs_readIar s a.ifc a.ns c
  | icceoir a data =>
    obtain ⟨why, hr⟩ | hs | hs := writeEoi_cases s a.ifc a.ns data
    · rw [hr] at ht; cases ht
    · rw [hs]; exact ⟨rfl, rfl⟩
    · rw [hs]; exact sameOutputs_deactivate s a.ifc _ c

/-- No event but EVALUATE(c) and RESET changes an output of interface c. -/
theorem EventEffect.sameOutputs {s t : State} {x : Input} (he : EventEffect s x t)
    (ht : t.unpred = false) {c : Cpu} (hx : x ≠ .evaluate c) : SameOutputs s t c := by
  cases he with
  | unchanged | inputs | edge => exact ⟨rfl, rfl⟩
  | evaluated d => exact sameOutputs_evaluate s fun hcd => hx (by rw [hcd])
  | windowClosed n _ _ => exact sameOutputs_setAckWindow s n _ c
  | applied =>
    obtain hs | hu | ⟨i, rest, -, hw⟩ := applyWrite_cases s
    · rw [hs]; exact ⟨rfl, rfl⟩
    · exact absurd (hu.symm.trans ht) (by decide)
    · exact .of_ifc_eq (hw.ifc_eq ht c)

/-- Settles O58: of the effects a step can have, only an evaluation, RESET and the idle step change an
output. -/
theorem outputsOnlyByEvaluate : Obligations.OutputsOnlyByEvaluate := by
  intro s t hs hstep ht c hchange
  have hdiff : ∀ rest, ¬ SameOutputs { s with inputs := rest } t c := fun rest hsame =>
    hchange.elim (fun hirq => hirq hsame.1) (fun hfiq => hfiq hsame.2)
  obtain ⟨hq, -⟩ | ⟨x, rest, hq, ⟨rfl, -⟩ | ⟨i, -, he⟩ | he⟩ := step_effect hstep hs ht
  · exact .inl hq
  · exact .inr ⟨rest, .inr hq⟩
  · exact absurd (he.sameOutputs ht c) (hdiff rest)
  · by_cases hx : x = .evaluate c
    · exact .inr ⟨rest, .inl (hx ▸ hq)⟩
    · exact absurd (he.sameOutputs ht hx) (hdiff rest)

/-! ## The identification values, the pending status and the reset event. -/

/-! ### Read-only values -/

theorem toNat_append_eq {v w : Nat} (x : BitVec v) (y : BitVec w) :
    (x ++ y).toNat = x.toNat * 2 ^ w + y.toNat := by
  rw [BitVec.toNat_append, ← Nat.shiftLeft_add_eq_or_of_lt y.isLt, Nat.shiftLeft_eq]

/-- ICDICTR_VALUE as a number (R50). -/
theorem icdictrValue_toNat (cfg : Config) :
    (icdictrValue cfg).toNat =
      lspi cfg * 2048 + cfg.secext.toNat * 1024 + (ncpu cfg - 1) * 32 + cfg.itLines.toNat := by
  have hlspi : lspi cfg < 2 ^ 5 := by
    unfold lspi
    split
    · exact cfg.lspi.isLt
    · decide
  simp only [icdictrValue, toNat_append_eq, BitVec.toNat_ofNat, Nat.mod_eq_of_lt hlspi,
    BitVec.toNat_ofBool, ncpu, Nat.add_sub_cancel]
  omega

/-- Settles O7: the value read as a number, with LSPI 0 where there are no Security Extensions. -/
theorem icdictrRead : Obligations.IcdictrRead := by
  intro s a h
  refine ⟨icdictrValue s.cfg, h.read, ?_⟩
  rw [icdictrValue_toNat, lspi]
  cases s.cfg.secext <;> simp

/-- ICDIIDR_VALUE as a number (R51, R131): bits [23:20] and [7] are 0. -/
theorem icdiidrValue_toNat (cfg : Config) :
    (icdiidrValue cfg).toNat =
      cfg.ids.distProductId.toNat * 2 ^ 24 + cfg.ids.distVariant.toNat * 2 ^ 16 +
        cfg.ids.distRevision.toNat * 2 ^ 12 + cfg.ids.distContinuation.toNat * 2 ^ 8 +
        cfg.ids.distIdentity.toNat := by
  simp only [icdiidrValue, toNat_append_eq, BitVec.toNat_ofNat]
  omega

/-- ICCIIDR_VALUE as a number (R51, R151): bits [19:16] are 0x1 and bit [7] is 0. -/
theorem icciidrValue_toNat (cfg : Config) :
    (icciidrValue cfg).toNat =
      cfg.ids.cpuProductId.toNat * 2 ^ 20 + 2 ^ 16 + cfg.ids.cpuRevision.toNat * 2 ^ 12 +
        cfg.ids.cpuContinuation.toNat * 2 ^ 8 + cfg.ids.cpuIdentity.toNat := by
  simp only [icciidrValue, toNat_append_eq, BitVec.toNat_ofNat]
  omega

/-- A field of a word has the value of the quotient and remainder it is. -/
theorem extractLsb'_eq_of_toNat {w start len : Nat} {x : BitVec w} {y : BitVec len}
    (h : x.toNat / 2 ^ start % 2 ^ len = y.toNat) : x.extractLsb' start len = y :=
  BitVec.eq_of_toNat_eq (by rw [BitVec.extractLsb'_toNat, Nat.shiftRight_eq_div_pow, h])

theorem getLsbD_eq_false_of_toNat {w k : Nat} {x : BitVec w} (h : x.toNat / 2 ^ k % 2 = 0) :
    x.getLsbD k = false := by
  rw [BitVec.getLsbD, Nat.testBit_eq_decide_div_mod_eq, h]
  rfl

/-- Settles O8: each field is read off the value as a number. -/
theorem implementerReads : Obligations.ImplementerReads := by
  refine ⟨fun s a h => ⟨icdiidrValue s.cfg, h.read, ?_⟩,
    fun s a h => ⟨icciidrValue s.cfg, h.read, ?_⟩⟩
  · have hv := icdiidrValue_toNat s.cfg
    refine ⟨extractLsb'_eq_of_toNat ?_, extractLsb'_eq_of_toNat ?_, extractLsb'_eq_of_toNat ?_,
      extractLsb'_eq_of_toNat ?_, extractLsb'_eq_of_toNat ?_, getLsbD_eq_false_of_toNat ?_,
      extractLsb'_eq_of_toNat ?_⟩ <;> rw [hv] <;> bv_omega
  · have hv := icciidrValue_toNat s.cfg
    refine ⟨extractLsb'_eq_of_toNat ?_, extractLsb'_eq_of_toNat ?_, extractLsb'_eq_of_toNat ?_,
      extractLsb'_eq_of_toNat ?_, getLsbD_eq_false_of_toNat ?_, extractLsb'_eq_of_toNat ?_⟩ <;>
      rw [hv] <;> bv_omega

/-! ### Pending status -/

/-- Settles O44: the two cases of the definition of Pend. -/
theorem pendingStatus : Obligations.PendingStatus := by
  intro s c n
  constructor
  · intro hn
    have hsgi : ¬ n < 16 := by omega
    rw [pend, if_neg hsgi, pendPeripheral]
    simp [and_assoc]
  · intro hn
    rw [pend, if_pos hn, List.any_eq_true]
    simp [sgipOf, hn, cpuExists]

/-! ### Reset -/

/-- The slots up to `hi`. -/
theorem getLsbD_slotRange_zero (hi k : Nat) :
    (slotRange 0 hi).getLsbD k = (decide (k < 1244) && decide (k ≤ hi)) := by
  rw [slotRange, BitVec.getLsbD_ofNat, Nat.pow_zero, Nat.testBit_two_pow_sub_one]
  simp only [Nat.lt_succ_iff]

/-- The slots below 256 are those of the banked interrupts (R25, log 13). -/
theorem slot_lt_256_iff (c : Cpu) (n : Nat) : slot c n < 256 ↔ n < 32 := by
  unfold slot
  split <;> omega

/-- NSB after reset: that of ICDISR0_RESET for the banked interrupts, 0 for the SPIs (R169). -/
theorem gicReset_nsb (cfg : Config) (c : Cpu) (n : Nat) :
    (Gic.reset cfg).nsb.getLsbD (slot c n) =
      (decide (n < 32) && cfg.icdisr0Reset.getLsbD (slot c n)) := by
  have hrange : (slotRange 0 255).getLsbD (slot c n) = decide (n < 32) := by
    rw [getLsbD_slotRange_zero, ← Bool.decide_and, decide_eq_decide, ← slot_lt_256_iff c n]
    omega
  rw [Gic.reset, BitVec.getLsbD_and, hrange, Bool.and_comm]

/-- Settles O48: RESET puts the registers of the reset state in place. -/
theorem resetEvent : Obligations.ResetEvent := by
  intro s rest hq
  refine ⟨_, step_reset hq, rfl, rfl, rfl, rfl, rfl, rfl, rfl, fun c n => rfl, fun c n => ?_,
    fun c n hf => ?_, fun n hf => ?_, fun c n has hans => ?_, fun c => ?_⟩
  · rw [edgeOf]
    exact ite_self _
  · simp [priOf, resetGic, hf]
  · simp [tgtOf, resetGic, hf]
  · simp [nsbOf, resetGic, has, hans, gicReset_nsb]
  · exact (gicReset_ifcs s.cfg c).trans (by simp [CpuInterface.reset, minimumBinaryPoint])

end Sys2Proof.Machine
end

section
/-! SUPPORT. What an access cannot change, how every access runs, and where a physical address leads:
the statements about accesses, settled. -/

namespace Sys2Proof.Machine

-- One theorem after another, as in the tests above: many threads at once need too much memory.
set_option Elab.async false

/-! ## The fields of an interrupt that an access cannot write. -/

/-- No copy of interrupt (c,n) is Writable to accesses whose NS is `ns` (R105). -/
def Unwritable (s : State) (ns : Bool) (c : Cpu) (n : Nat) : Prop :=
  ∀ d, slot d n = slot c n → writable s d n ns = false

section
variable {s t u : State} {ns : Bool} {c d : Cpu} {n : Nat}

/-- The security of an interrupt is that of its slot. -/
theorem isSecureInt_of_slot_eq (h : slot d n = slot c n) : isSecureInt s d n = isSecureInt s c n := by
  by_cases hn : n < 32
  · rw [(slot_inj.mp h).2 hn]
  · exact isSecureInt_spi (by omega) d c

/-- A Non-secure access writes no field of a Secure interrupt (R103, R105). -/
theorem Unwritable.of_secure (hx : s.cfg.secext = true) (h : isSecureInt s c n = true) :
    Unwritable s true c n := by
  intro d hd
  have hvisible : visible s d n true = false := by
    simp [visible, hx, (isSecureInt_of_slot_eq hd).trans h]
  simp [writable, hvisible]

/-- No access writes a field of a locked SPI (R107). -/
theorem Unwritable.of_locked (h : locked s n = true) : Unwritable s ns c n := fun d _ => by
  simp [writable, h]

theorem Unwritable.bitmapTargets (h : Unwritable s ns c n) {req : Option Cpu} {m : Nat} {data : Word}
    {further : Cpu → Nat → Bool} :
    (bitmapTargets s req ns m data further).getLsbD (slot c n) = false :=
  bitmapTargets_eq_false h

theorem Unwritable.configTargets (h : Unwritable s ns c n) (req : Option Cpu) (m : Nat)
    (further : Cpu → Nat → Bool) :
    (configTargets s req ns m further).getLsbD (slot c n) = false := by
  rw [Bool.eq_false_iff]
  intro ht
  rw [getLsbD_configTargets] at ht
  obtain ⟨-, d, -, hlo, hhi, hw, -⟩ := ht
  obtain ⟨f, hf⟩ := Nat.exists_eq_add_of_le hlo
  have hs : slot d (16 * m + f) = slot c n := by rw [slot_instance16 d m f (by omega), hf]
  obtain rfl : 16 * m + f = n := (slot_inj.mp hs).1
  rw [hf, Nat.add_sub_cancel_left, h d hs] at hw
  cases hw

theorem Unwritable.icdiprTarget_ne (h : Unwritable s ns c n) (req : Option Cpu) (k : Nat) :
    icdiprTarget s req ns k ≠ some (slot c n) := by
  intro ht
  unfold icdiprTarget at ht
  split at ht
  · cases ht
  next d _ =>
  split at ht
  · next hw =>
    have hs : slot d k = slot c n := Option.some.inj ht
    obtain rfl := (slot_inj.mp hs).1
    rw [h d hs] at hw
    cases hw
  · cases ht

theorem Unwritable.icdiptrTarget_ne (h : Unwritable s ns c n) (k : Nat) :
    icdiptrTarget s ns k ≠ some (n + 224) := by
  intro ht
  unfold icdiptrTarget at ht
  split at ht
  · cases ht
  split at ht
  · cases ht
  next hk =>
  split at ht
  · next hw =>
    obtain rfl : k = n := Nat.add_right_cancel (Option.some.inj ht)
    rw [h 0 (slot_spi_eq (by omega) 0 c)] at hw
    cases hw
  · cases ht

/-! ### Bits that a write leaves -/

theorem getLsbD_or_of_unset {w k : Nat} {x y : BitVec w} (h : y.getLsbD k = false) :
    (x ||| y).getLsbD k = x.getLsbD k := by
  rw [BitVec.getLsbD_or, h, Bool.or_false]

theorem getLsbD_and_not_of_unset {w k : Nat} {x y : BitVec w} (h : y.getLsbD k = false) :
    (x &&& ~~~ y).getLsbD k = x.getLsbD k := by
  by_cases hk : k < w
  · rw [BitVec.getLsbD_and, BitVec.getLsbD_not, h, decide_eq_true hk, Bool.not_false, Bool.and_true,
      Bool.and_true]
  · rw [BitVec.getLsbD_of_ge _ _ (by omega), BitVec.getLsbD_of_ge _ _ (by omega)]

/-! ### The configuration of an interrupt -/

theorem SameConfig.refl (s : State) (c : Cpu) (n : Nat) : SameConfig s s c n :=
  ⟨rfl, rfl, rfl, rfl, rfl⟩

theorem SameConfig.trans (h : SameConfig s t c n) (h' : SameConfig t u c n) : SameConfig s u c n := by
  obtain ⟨hnsb, hen, hpri, htgt, hedge⟩ := h
  obtain ⟨hnsb', hen', hpri', htgt', hedge'⟩ := h'
  exact ⟨hnsb'.trans hnsb, hen'.trans hen, hpri'.trans hpri, htgt'.trans htgt, hedge'.trans hedge⟩

theorem SameConfig.setNsb {v : Bits} (h : v.getLsbD (slot c n) = s.gic.nsb.getLsbD (slot c n)) :
    SameConfig s (s.setNsb v) c n :=
  ⟨by simp [nsbOf, h], rfl, rfl, rfl, rfl⟩

theorem SameConfig.setEn {v : Bits} (h : v.getLsbD (slot c n) = s.gic.en.getLsbD (slot c n)) :
    SameConfig s (s.setEn v) c n :=
  ⟨rfl, by simp [enOf, h], rfl, rfl, rfl⟩

theorem SameConfig.setIcfg {v : Bits} (h : v.getLsbD (slot c n) = s.gic.icfg.getLsbD (slot c n)) :
    SameConfig s (s.setIcfg v) c n :=
  ⟨rfl, rfl, rfl, rfl, by simp [edgeOf, h]⟩

theorem SameConfig.setPri {v : Bytes} (h : getByte v (slot c n) = getByte s.gic.pri (slot c n)) :
    SameConfig s (s.setPri v) c n :=
  ⟨rfl, rfl, by simp [priOf, h], rfl, rfl⟩

theorem SameConfig.setTgt {v : Bytes} (h : getByte v (n + 224) = getByte s.gic.tgt (n + 224)) :
    SameConfig s (s.setTgt v) c n :=
  ⟨rfl, rfl, rfl, by simp [tgtOf, h], rfl⟩

/-! ### Writes of the Distributor -/

/-- A write of ICDISR that raises nothing writes NSB only (R168). -/
theorem writeIcdisr_of_unpred {req : Option Cpu} {m : Nat} {data : Word}
    (ht : (writeIcdisr req ns m data s).unpred = false) :
    ∃ v, writeIcdisr req ns m data s = s.setNsb v := by
  obtain ⟨why, hr⟩ | hv := writeIcdisr_cases req ns m data s
  · rw [hr] at ht; cases ht
  · exact hv

/-- A write of ICDICFR that raises nothing writes CFG only (R246). -/
theorem writeIcdicfr_of_unpred {req : Option Cpu} {m : Nat} {data : Word}
    (ht : (writeIcdicfr req ns m data s).unpred = false) :
    ∃ v, writeIcdicfr req ns m data s = s.setIcfg v := by
  obtain ⟨why, hr⟩ | hv := writeIcdicfr_cases req ns m data s
  · rw [hr] at ht; cases ht
  · exact hv

/-- A write of ICDSGIR that raises nothing writes SGIP only (R281). -/
theorem writeIcdsgir_of_unpred {req : Option Cpu} {data : Word}
    (ht : (writeIcdsgir req ns data s).unpred = false) :
    ∃ v, writeIcdsgir req ns data s = s.setSgip v := by
  obtain ⟨why, hr⟩ | ⟨v, hv, -⟩ := writeIcdsgir_cases req ns data s
  · rw [hr] at ht; cases ht
  · exact ⟨v, hv⟩

theorem sameConfig_writeIcddcr (s : State) (data : Word) :
    SameConfig s (writeIcddcr ns data s) c n := by
  have hset : SameConfig s (setEnableBit ns data s) c n := by
    obtain he | ⟨v, he⟩ | ⟨v, he⟩ := setEnableBit_cases ns data s <;> rw [he]
    · exact .refl s c n
    · exact .refl s c n
    · exact .refl s c n
  unfold writeIcddcr
  simp only
  split
  · exact hset
  · exact hset

theorem Unwritable.writeIcdisr (h : Unwritable s ns c n) {req : Option Cpu} {m : Nat} {data : Word}
    (ht : (writeIcdisr req ns m data s).unpred = false) :
    SameConfig s (writeIcdisr req ns m data s) c n := by
  unfold Machine.writeIcdisr at ht ⊢
  split
  · exact .refl s c n
  next hns =>
  rw [if_neg hns] at ht
  obtain ⟨-, rfl⟩ : s.cfg.secext = true ∧ ns = false := by simpa using hns
  split
  · next hr => rw [if_pos hr] at ht; cases ht
  · exact .setNsb ((getLsbD_or_of_unset h.bitmapTargets).trans
      (getLsbD_and_not_of_unset h.bitmapTargets))

theorem Unwritable.writeIcdicfr (h : Unwritable s ns c n) {req : Option Cpu} {m : Nat} {data : Word}
    (ht : (writeIcdicfr req ns m data s).unpred = false) :
    SameConfig s (writeIcdicfr req ns m data s) c n := by
  unfold Machine.writeIcdicfr at ht ⊢
  split
  · next hr => rw [if_pos hr] at ht; cases ht
  · have htargets := h.configTargets req m (cfgProgrammable s.cfg)
    refine .setIcfg ((getLsbD_or_of_unset ?_).trans (getLsbD_and_not_of_unset htargets))
    rw [BitVec.getLsbD_and, htargets, Bool.and_false]

theorem Unwritable.writeIcdiptr {a : DistArgs} (h : Unwritable s a.ns c n) (m : Nat) (data : Word) :
    SameConfig s (writeIcdiptr a m data s) c n :=
  .setTgt (getByte_writeBytes_of_ne _ _ _ _ _ _ _ fun _ _ => h.icdiptrTarget_ne _)

end

/-- A Distributor write changes no configuration of an interrupt it cannot write (R105). -/
theorem WriteEffect.sameConfig {s t : State} {i : Instr} {c : Cpu} {n : Nat} (he : WriteEffect s i t)
    (ht : t.unpred = false) (h : Unwritable s (accessInfo i).ns c n) : SameConfig s t c n := by
  cases he with
  | ignored => exact .refl s c n
  | icddcr a data => exact sameConfig_writeIcddcr s data
  | icdisr m a data => exact Unwritable.writeIcdisr h ht
  | icdiser m a data => exact .setEn (getLsbD_or_of_unset (Unwritable.bitmapTargets h))
  | icdicer m a data => exact .setEn (getLsbD_and_not_of_unset (Unwritable.bitmapTargets h))
  | icdispr | icdicpr => exact .refl s c n
  | icdipr m a data =>
    exact .setPri (getByte_writeBytes_of_ne _ _ _ _ _ _ _ fun _ _ =>
      Unwritable.icdiprTarget_ne h _ _)
  | icdiptrPriv m a data => exact Unwritable.writeIcdiptr h m.toNat data
  | icdiptrSpi m a data => exact Unwritable.writeIcdiptr h m.toNat data
  | icdicfr m a data => exact Unwritable.writeIcdicfr h ht
  | icdsgir a data =>
    obtain ⟨v, hv⟩ := writeIcdsgir_of_unpred ht
    rw [hv]
    exact .refl s c n

/-! ## What an operation of a CPU interface leaves: the configuration of every interrupt and the Secure
controls. -/

/-- The Secure fields of a CPU interface (R37, R39). -/
def secureFields (i : CpuInterface) : Bool × Bool × Bool × Bool × BitVec 3 :=
  (i.enableS, i.ackCtl, i.fiqEn, i.sbpr, i.bprS)

/-- The configuration of every interrupt and the Secure controls are the same in two states. -/
structure SameControls (s t : State) : Prop where
  cfg : t.cfg = s.cfg
  nsb : t.gic.nsb = s.gic.nsb
  en : t.gic.en = s.gic.en
  pri : t.gic.pri = s.gic.pri
  tgt : t.gic.tgt = s.gic.tgt
  icfg : t.gic.icfg = s.gic.icfg
  dcrS : t.gic.dcrS = s.gic.dcrS
  ifc : ∀ c, secureFields (t.ifc c) = secureFields (s.ifc c)

namespace SameControls

theorem refl (s : State) : SameControls s s := ⟨rfl, rfl, rfl, rfl, rfl, rfl, rfl, fun _ => rfl⟩

theorem trans {s t u : State} (h : SameControls s t) (h' : SameControls t u) : SameControls s u :=
  ⟨h'.cfg.trans h.cfg, h'.nsb.trans h.nsb, h'.en.trans h.en, h'.pri.trans h.pri, h'.tgt.trans h.tgt,
    h'.icfg.trans h.icfg, h'.dcrS.trans h.dcrS, fun c => (h'.ifc c).trans (h.ifc c)⟩

theorem sameConfig {s t : State} (h : SameControls s t) (c : Cpu) (n : Nat) : SameConfig s t c n := by
  simp [SameConfig, nsbOf, enOf, priOf, tgtOf, edgeOf, h.cfg, h.nsb, h.en, h.pri, h.tgt, h.icfg]

/-! ### Setters -/

/-- New values of the other fields of an interface. -/
theorem withIfc (s : State) {c : Cpu} {i : CpuInterface}
    (h : secureFields i = secureFields (s.ifc c) := by rfl) : SameControls s (s.withIfc c i) where
  __ := refl s
  ifc d := by
    rw [State.withIfc_ifc]
    split
    · next hd => rw [hd]; exact h
    · rfl

/-- New values of the other fields of every interface. -/
theorem setIfcs (s : State) {f : Cpu → CpuInterface}
    (h : ∀ c, secureFields (f c) = secureFields (s.ifc c) := by intro _; rfl) :
    SameControls s (s.setIfcs (perCpu f)) where
  __ := refl s
  ifc c := by rw [State.setIfcs_ifc, getElem_perCpu]; exact h c

theorem setLatch (s : State) (v : Bits) : SameControls s (s.setLatch v) := { refl s with }
theorem setSgip (s : State) (v : BitVec 1024) : SameControls s (s.setSgip v) := { refl s with }
theorem setWq (s : State) (v : List Instr) : SameControls s (s.setWq v) := { refl s with }
theorem respond (s : State) (v : Word) : SameControls s (s.respond v) := { refl s with }
theorem drawn (s : State) : SameControls s s.drawn := { refl s with }

/-! ### Taking an interrupt and returning from it -/

theorem setAckWindow (s : State) (n : Nat) (w : Cpu → Bool) : SameControls s (setAckWindow s n w) :=
  .setIfcs s

theorem closeOwnWindows (s : State) (c : Cpu) : SameControls s (closeOwnWindows s c) := .withIfc s

theorem pushActive (s : State) (c : Cpu) (e : ActiveEntry) : SameControls s (pushActive s c e) :=
  .withIfc s

theorem clearPending (s : State) (c : Cpu) (p : IntRef) : SameControls s (clearPending s c p) := by
  unfold Machine.clearPending
  split
  · exact .setSgip s _
  · exact .setLatch s _

theorem acknowledge (s : State) (c : Cpu) (p : IntRef) : SameControls s (acknowledge s c p) := by
  unfold Machine.acknowledge
  simp only
  split
  · exact ((setAckWindow s p.id _).trans (clearPending _ c p)).trans (pushActive _ c _)
  · exact (clearPending s c p).trans (pushActive _ c _)

theorem deactivate (s : State) (c : Cpu) (n : Nat) : SameControls s (deactivate s c n) := by
  have hactive : SameControls s (s.withIfc c { s.ifc c with
      active := (s.ifc c).active.filter fun e => decide (e.id ≠ n) }) := .withIfc s
  unfold Machine.deactivate
  simp only
  split
  · exact hactive.trans (setAckWindow _ n _)
  · exact hactive

/-! ### Outputs and windows -/

theorem evaluate (s : State) (c : Cpu) : SameControls s (evaluate s c) := by
  unfold Machine.evaluate
  simp only
  split
  · exact (withIfc s).trans (drawn _)
  · exact (withIfc s).trans (drawn _)

theorem evaluateAll (s : State) : SameControls s (evaluateAll s) :=
  evaluateAll_induction (fun u c h => h.trans (evaluate u c)) (refl s)

theorem closeAllWindows (s : State) : SameControls s (closeAllWindows s) := .setIfcs s

/-! ### Writes of a CPU interface -/

theorem writeIccpmr (s : State) (c : Cpu) (ns : Bool) (data : Word) :
    SameControls s (writeIccpmr c ns data s) := by
  unfold Machine.writeIccpmr
  split
  · split
    · exact .withIfc s
    · exact .refl s
  · exact .withIfc s

theorem writeIccabpr (s : State) (c : Cpu) (ns : Bool) (data : Word) :
    SameControls s (writeIccabpr c ns data s) := by
  unfold Machine.writeIccabpr
  split
  · exact .withIfc s
  · exact .refl s

/-- A write of ICCICR reaches EnableNS only, if it is Non-secure or lockdown is active (R312). -/
theorem writeIccicr {s : State} {ns : Bool} (hx : s.cfg.secext = true)
    (h : ns = true ∨ lockActive s = true) (c : Cpu) (data : Word) :
    SameControls s (writeIccicr c ns data s) := by
  unfold Machine.writeIccicr
  simp only
  split
  · next hn => rw [hx] at hn; cases hn
  split
  · exact .withIfc s
  split
  · exact .withIfc s
  · next hns hl => exact absurd h (not_or.mpr ⟨hns, hl⟩)

end SameControls

/-! ### Writes of the controls of a CPU interface -/

/-- The state with other controls of interface c: what is active on it is as before. -/
def ControlWrite (c : Cpu) (s t : State) : Prop :=
  ∃ i, t = s.withIfc c i ∧ i.active = (s.ifc c).active

theorem ControlWrite.refl (c : Cpu) (s : State) : ControlWrite c s s :=
  ⟨s.ifc c, by simp [State.withIfc, State.ifc], rfl⟩

theorem ControlWrite.act_eq {c : Cpu} {s t : State} (h : ControlWrite c s t) (d : Cpu) (n : Nat) :
    act t d n = act s d n := by
  obtain ⟨i, rfl, hi⟩ := h
  refine act_eq_of_active_eq ?_ n
  rw [State.withIfc_ifc]
  split
  · next hd => rw [hd, hi]
  · rfl

theorem writeIccicr_control (c : Cpu) (ns : Bool) (data : Word) (s : State) :
    ControlWrite c s (writeIccicr c ns data s) := by
  unfold writeIccicr
  simp only
  split
  · exact ⟨_, rfl, rfl⟩
  split
  · exact ⟨_, rfl, rfl⟩
  split
  · exact ⟨_, rfl, rfl⟩
  · exact ⟨_, rfl, rfl⟩

theorem writeIccpmr_control (c : Cpu) (ns : Bool) (data : Word) (s : State) :
    ControlWrite c s (writeIccpmr c ns data s) := by
  unfold writeIccpmr
  split
  · split
    · exact ⟨_, rfl, rfl⟩
    · exact .refl c s
  · exact ⟨_, rfl, rfl⟩

theorem writeIccbpr_control (c : Cpu) (ns : Bool) (data : Word) (s : State) :
    ControlWrite c s (writeIccbpr c ns data s) := by
  unfold writeIccbpr
  split
  · exact ⟨_, rfl, rfl⟩
  · exact ⟨_, rfl, rfl⟩

theorem writeIccabpr_control (c : Cpu) (ns : Bool) (data : Word) (s : State) :
    ControlWrite c s (writeIccabpr c ns data s) := by
  unfold writeIccabpr
  split
  · exact ⟨_, rfl, rfl⟩
  · exact .refl c s

/-! ## What a read of ICCIAR and a write of ICCEOIR may touch. -/

/-- What a read of ICCIAR obtains through a window it may acknowledge (R441). -/
theorem windowSpi_security {s : State} {c : Cpu} {ns : Bool} {n : Nat}
    (h : windowSpi s c ns = some n) :
    iarSecurity s c ns { id := n, src := 0 } = .valid { id := n, src := 0 } := by
  unfold windowSpi at h
  split at h
  · cases h
  split at h
  · cases h
  split at h
  · cases h
  split at h
  · cases h
  split at h
  · next hcond =>
    cases h
    simp only [Bool.and_eq_true, decide_eq_true_eq] at hcond
    exact hcond.2
  · cases h

/-- Table 4-30 answers the interrupt it is asked about, if any (R432). -/
theorem iarSecurity_valid {s : State} {c : Cpu} {ns : Bool} {p q : IntRef}
    (h : iarSecurity s c ns p = .valid q) : q = p := by
  unfold iarSecurity at h
  split at h
  · cases h
  split at h
  · cases h
  · cases h; rfl

/-- What a read of ICCIAR obtains otherwise it may acknowledge (R432). -/
theorem iarValue_security {s : State} {c : Cpu} {ns : Bool} {p : IntRef}
    (h : iarValue s c ns = .valid p) : iarSecurity s c ns p = .valid p := by
  unfold iarValue at h
  split at h
  · cases h
  split at h
  · obtain rfl := iarSecurity_valid h
    exact h
  · cases h

/-- A read of ICCIAR obtains nothing, an SPI through a window, or HPPI(c), each as Table 4-30 lets it
(R432, R441). -/
theorem readIar_cases (s : State) (c : Cpu) (ns : Bool) :
    (∃ v, readIar s c ns = (closeOwnWindows s c).respond v) ∨
      ∃ p v, iarSecurity s c ns p = .valid p ∧
        (readIar s c ns = (pushActive (closeOwnWindows s c) c
            { id := p.id, src := p.src, pri := priOf s c p.id }).respond v ∨
          readIar s c ns = (acknowledge (closeOwnWindows s c) c p).respond v) := by
  unfold readIar
  simp only
  split
  · next n hw =>
    refine .inr ⟨{ id := n, src := 0 }, _, ?_, .inl rfl⟩
    exact windowSpi_security hw
  split
  · exact .inl ⟨_, rfl⟩
  · exact .inl ⟨_, rfl⟩
  · next p hp => exact .inr ⟨p, _, iarValue_security hp, .inr rfl⟩

theorem SameControls.readIar (s : State) (c : Cpu) (ns : Bool) : SameControls s (readIar s c ns) := by
  have hclose := SameControls.closeOwnWindows s c
  obtain ⟨v, he⟩ | ⟨p, v, -, he | he⟩ := readIar_cases s c ns <;> rw [he]
  · exact hclose.trans (.respond _ v)
  · exact (hclose.trans (.pushActive _ c _)).trans (.respond _ v)
  · exact (hclose.trans (.acknowledge _ c p)).trans (.respond _ v)

/-- A write of ICCEOIR raises Unpredictable, is ignored, or returns from an interrupt Table 4-32 lets it
return from (R319, R434). -/
theorem writeEoi_cases_permitted (s : State) (c : Cpu) (ns : Bool) (data : Word) :
    (∃ why, writeEoi s c ns data = raise why s) ∨ writeEoi s c ns data = s ∨
      ∃ n, writeEoi s c ns data = deactivate s c n ∧
        (s.cfg.secext = true → eoiPermitted s c n ns = true) := by
  by_cases hp : s.cfg.secext = true → eoiPermitted s c (data.extractLsb' 0 10).toNat ns = true
  · obtain hr | hs | hd := writeEoi_cases s c ns data
    · exact .inl hr
    · exact .inr (.inl hs)
    · exact .inr (.inr ⟨_, hd, hp⟩)
  · rw [Classical.not_imp, Bool.not_eq_true] at hp
    unfold writeEoi
    simp only [hp.1, hp.2, Bool.not_false, Bool.and_true, if_true]
    split
    · exact .inr (.inl rfl)
    split
    · exact .inr (.inl rfl)
    split
    · exact .inl ⟨_, rfl⟩
    split
    · exact .inl ⟨_, rfl⟩
    split
    · exact .inl ⟨_, rfl⟩
    · exact .inr (.inl rfl)

/-! ### Active and pending interrupts -/

theorem act_acknowledge {s : State} {c d : Cpu} {p : IntRef} {n : Nat} :
    act (acknowledge s c p) d n = true ↔ act s d n = true ∨ (d = c ∧ p.id = n) := by
  rw [act, act, acknowledge_active]
  by_cases h : d = c
  · simp [h]
  · simp [h]

theorem act_deactivate {s : State} {c d : Cpu} {n m : Nat} :
    act (deactivate s c n) d m = true ↔ act s d m = true ∧ ¬ (d = c ∧ m = n) := by
  rw [act_eq_true, act_eq_true, deactivate_active]
  by_cases h : d = c
  · subst h
    simp only [if_true, List.mem_filter, decide_eq_true_eq, true_and]
    constructor
    · rintro ⟨e, ⟨he, hne⟩, rfl⟩; exact ⟨⟨e, he, rfl⟩, hne⟩
    · rintro ⟨⟨e, he, rfl⟩, hne⟩; exact ⟨e, ⟨he, hne⟩, rfl⟩
  · simp [h]

theorem SamePending.refl (s : State) (c : Cpu) (n : Nat) : SamePending s s c n := ⟨rfl, fun _ => rfl⟩

theorem SamePending.setLatch {s : State} {v : Bits} {c : Cpu} {n : Nat}
    (h : v.getLsbD (slot c n) = s.gic.latch.getLsbD (slot c n)) :
    SamePending s (s.setLatch v) c n :=
  ⟨h, fun _ => rfl⟩

theorem SamePending.setSgip {s : State} {v : BitVec 1024} {c : Cpu} {n : Nat}
    (h : n < 16 → ∀ src, v.getLsbD (sgipIndex c n src) = s.gic.sgip.getLsbD (sgipIndex c n src)) :
    SamePending s (s.setSgip v) c n := by
  refine ⟨rfl, fun src => ?_⟩
  by_cases hn : n < 16
  · simp [sgipOf, h hn]
  · simp [sgipOf, hn]

/-- Taking an interrupt clears nothing of an interrupt of another slot (R431). -/
theorem samePending_acknowledge {s : State} {c d : Cpu} {p : IntRef} {n : Nat}
    (h : slot d n ≠ slot c p.id) : SamePending s (acknowledge s c p) d n := by
  constructor
  · rw [latchOf, latchOf, acknowledge_latch]
    split
    · rfl
    · rw [getLsbD_putBit, if_neg fun hs => h hs.1]
  · intro src
    rw [sgipOf, sgipOf, acknowledge_sgip, acknowledge_cfg]
    by_cases hn : n < 16
    · split
      · next hp =>
        rw [getLsbD_putBit, if_neg]
        rintro ⟨hs, -⟩
        obtain ⟨rfl, rfl, -⟩ := (sgipIndex_inj hn hp).mp hs
        exact h rfl
      · rfl
    · simp [hn]

/-! ## What a Non-secure access may touch of a Secure interrupt. -/

section
variable {s t : State} {c d : Cpu} {n : Nat}

theorem slot_ne_of_security {m : Nat} (h : isSecureInt s d n = true)
    (hm : isSecureInt s c m = false) : slot d n ≠ slot c m := by
  intro hs
  obtain rfl := (slot_inj.mp hs).1
  rw [isSecureInt_of_slot_eq hs, hm] at h
  cases h

/-- A Non-secure read of ICCIAR obtains Non-secure interrupts only (R432). -/
theorem iarSecurity_nonsecure {p q : IntRef} (hx : s.cfg.secext = true)
    (h : iarSecurity s c true p = .valid q) : isSecureInt s c p.id = false := by
  unfold iarSecurity at h
  split at h
  · cases h
  · next hs => simpa [hx] using hs

theorem act_readIar_of_secure (hx : s.cfg.secext = true) (h : isSecureInt s d n = true) :
    act (readIar s c true) d n = act s d n := by
  have hact := act_eq_of_active_eq (closeOwnWindows_active s c d) n
  rw [Bool.eq_iff_iff, ← hact]
  obtain ⟨v, he⟩ | ⟨p, v, hp, he | he⟩ := readIar_cases s c true <;> rw [he]
  · exact Iff.rfl
  all_goals
    have hne : ¬ (d = c ∧ p.id = n) := by
      rintro ⟨rfl, rfl⟩
      exact slot_ne_of_security h (iarSecurity_nonsecure hx hp) rfl
  · exact act_pushActive.trans (or_iff_left hne)
  · exact act_acknowledge.trans (or_iff_left hne)

theorem samePending_readIar_of_secure (hx : s.cfg.secext = true) (h : isSecureInt s d n = true) :
    SamePending s (readIar s c true) d n := by
  obtain ⟨v, he⟩ | ⟨p, v, hp, he | he⟩ := readIar_cases s c true <;> rw [he]
  · exact .refl s d n
  · exact .refl s d n
  · exact samePending_acknowledge (s := closeOwnWindows s c)
      (slot_ne_of_security h (iarSecurity_nonsecure hx hp))

/-- A Non-secure write of ICCEOIR leaves Secure interrupts active (R434). -/
theorem act_deactivate_of_secure {m : Nat} (hp : eoiPermitted s c m true = true)
    (h : isSecureInt s d n = true) : act (deactivate s c m) d n = act s d n := by
  have hm : isSecureInt s c m = false := by simpa [eoiPermitted] using hp
  rw [Bool.eq_iff_iff, act_deactivate]
  refine and_iff_left ?_
  rintro ⟨rfl, rfl⟩
  exact slot_ne_of_security h hm rfl

/-- Enabling the Non-secure copy of ICDDCR enables no Secure interrupt, unless either copy governs every
interrupt (R45). -/
theorem fwdEn_setDcrNS_of_secure {v : Bool} (h : isSecureInt s c n = true)
    (hp : s.cfg.distEnablePolicy ≠ .either) : fwdEn (s.setDcrNS v) c n = fwdEn s c n := by
  have h' : isSecureInt (s.setDcrNS v) c n = true := h
  simp only [fwdEn, State.setDcrNS_cfg, State.setDcrNS_gic_dcrS, h, h', if_true]
  split
  · rfl
  split
  · rfl
  · next he => exact absurd he hp
  · rfl

theorem samePending_writeIcddcr_of_secure {data : Word} (hx : s.cfg.secext = true)
    (h : isSecureInt s c n = true)
    (hp : s.cfg.distEnablePolicy ≠ .either ∨ s.cfg.edgeHighAtEnable = .noEdge) :
    SamePending s (writeIcddcr true data s) c n := by
  have hset : setEnableBit true data s = s.setDcrNS (data.getLsbD 0) := by
    simp [setEnableBit, hx]
  unfold writeIcddcr
  simp only [hset]
  split
  · next hedge =>
    have hpolicy : s.cfg.distEnablePolicy ≠ .either := hp.resolve_right (by rw [hedge]; decide)
    refine SamePending.setLatch (s := s.setDcrNS _) (getLsbD_or_of_unset ?_)
    have hslot : slot (slotCpu (slot c n)) (slotId (slot c n)) = slot c n := slot_slotId
    rw [slotId_slot] at hslot
    have hk : isSecureInt s (slotCpu (slot c n)) n = true := (isSecureInt_of_slot_eq hslot).trans h
    rw [getLsbD_bitsOf, risesAtEnable, slotId_slot, fwdEn_setDcrNS_of_secure hk hpolicy]
    simp
  · exact .refl s c n

/-- A write of ICDSGIR changes no pending SGI it is not sent to (R281). -/
theorem writeIcdsgir_unsent {req : Option Cpu} {ns : Bool} {data : Word}
    (ht : (writeIcdsgir req ns data s).unpred = false)
    (h : sgiSent s ns data c = true → n ≠ (data.extractLsb' 0 4).toNat) :
    SamePending s (writeIcdsgir req ns data s) c n := by
  unfold writeIcdsgir at ht ⊢
  split
  · exact .refl s c n
  split
  · next hr => simp only [if_pos hr] at ht; cases ht
  split
  · next hr hr' => simp only [if_neg hr, if_pos hr'] at ht; cases ht
  refine .setSgip fun hn src => ?_
  rw [Bool.eq_iff_iff, getLsbD_foldl_putBit _ _ _ _ (sgipIndex_lt hn)]
  refine or_iff_left ?_
  rintro ⟨d, -, hsent, hidx⟩
  obtain ⟨rfl, hid, -⟩ := (sgipIndex_inj hn (data.extractLsb' 0 4).isLt).mp hidx
  rw [Bool.and_eq_true] at hsent
  exact h hsent.2 hid

end

/-- A Non-secure Distributor write leaves what is pending of a Secure interrupt (R103). -/
theorem WriteEffect.samePending_of_secure {s t : State} {i : Instr} {c : Cpu} {n : Nat}
    (he : WriteEffect s i t) (ht : t.unpred = false) (hx : s.cfg.secext = true)
    (hns : (accessInfo i).ns = true) (h : isSecureInt s c n = true)
    (hp : s.cfg.distEnablePolicy ≠ .either ∨ s.cfg.edgeHighAtEnable = .noEdge) :
    SamePending s t c n := by
  have hunwritable : Unwritable s (accessInfo i).ns c n := hns ▸ .of_secure hx h
  cases he with
  | ignored | icdiser | icdicer | icdipr | icdiptrPriv | icdiptrSpi => exact .refl s c n
  | icddcr a data =>
    rw [show a.ns = true from hns]
    exact samePending_writeIcddcr_of_secure hx h hp
  | icdisr m a data =>
    obtain ⟨v, hv⟩ := writeIcdisr_of_unpred ht
    rw [hv]
    exact .refl s c n
  | icdispr m a data => exact .setLatch (getLsbD_or_of_unset hunwritable.bitmapTargets)
  | icdicpr m a data =>
    exact .setLatch (getLsbD_and_not_of_unset hunwritable.bitmapTargets)
  | icdicfr m a data =>
    obtain ⟨v, hv⟩ := writeIcdicfr_of_unpred ht
    rw [hv]
    exact .refl s c n
  | icdsgir a data =>
    refine writeIcdsgir_unsent ht ?_
    rintro hsent rfl
    have hsecure : nsbOf s c (data.extractLsb' 0 4).toNat = false := by
      simpa [isSecureInt, hx] using h
    simp only [sgiSent, hx, show a.ns = true from hns, hsecure, if_true, Bool.not_true, Bool.or_false,
      Bool.and_false, Bool.false_eq_true] at hsent

/-! ## Accesses that reach no Secure control: the Non-secure ones, and every one under lockdown. -/

/-- The Enable bit of DCR_S is not reached (R106, R162). -/
theorem setEnableBit_dcrS {s : State} {ns : Bool} (hx : s.cfg.secext = true)
    (h : ns = true ∨ lockActive s = true) (data : Word) :
    (setEnableBit ns data s).gic.dcrS = s.gic.dcrS := by
  unfold setEnableBit
  split
  · rfl
  next hns =>
  rw [if_pos (h.resolve_left fun hn => hns (by rw [hx, hn]; rfl))]

theorem WriteEffect.dcrS_eq {s t : State} {i : Instr} (he : WriteEffect s i t)
    (ht : t.unpred = false) (hx : s.cfg.secext = true)
    (h : (accessInfo i).ns = true ∨ lockActive s = true) : t.gic.dcrS = s.gic.dcrS := by
  cases he with
  | ignored | icdiser | icdicer | icdispr | icdicpr | icdipr | icdiptrPriv | icdiptrSpi => rfl
  | icddcr a data =>
    have hset := setEnableBit_dcrS hx h data
    unfold writeIcddcr
    simp only
    split
    · exact hset
    · exact hset
  | icdisr m a data =>
    obtain ⟨v, hv⟩ := writeIcdisr_of_unpred ht
    rw [hv]
    rfl
  | icdicfr m a data =>
    obtain ⟨v, hv⟩ := writeIcdicfr_of_unpred ht
    rw [hv]
    rfl
  | icdsgir a data =>
    obtain ⟨v, hv⟩ := writeIcdsgir_of_unpred ht
    rw [hv]
    rfl

/-- Such an access performs a Distributor write, is the Secure write of ICCBPR, which lockdown does not
stop (R316), or leaves the configuration of every interrupt and the Secure controls. -/
theorem AccessEffect.controls_cases {s t : State} {i : Instr} (he : AccessEffect s i t)
    (ht : t.unpred = false) (hx : s.cfg.secext = true)
    (h : (accessInfo i).ns = true ∨ lockActive s = true) :
    WriteEffect s i t ∨ SameControls s t ∨
      ((accessInfo i).ns = false ∧ ∃ c v, t = s.withIfc c { s.ifc c with bprS := v }) := by
  cases he with
  | performed hw => exact .inl hw
  | queued => exact .inr (.inl (.setWq s _))
  | ignored => exact .inr (.inl (.refl s))
  | read _ v => exact .inr (.inl (.respond s v))
  | readDrawn _ v => exact .inr (.inl ((SameControls.respond s v).trans (.drawn _)))
  | iccicr a data => exact .inr (.inl (.writeIccicr hx h a.ifc data))
  | iccpmr a data => exact .inr (.inl (.writeIccpmr s a.ifc a.ns data))
  | iccbpr a data =>
    unfold writeIccbpr
    split
    · exact .inr (.inl (.withIfc s))
    · next hns =>
      have hsecure : a.ns = false := by simpa [hx] using hns
      exact .inr (.inr ⟨hsecure, a.ifc, _, rfl⟩)
  | iccabpr a data => exact .inr (.inl (.writeIccabpr s a.ifc a.ns data))
  | icciar a _ => exact .inr (.inl ((SameControls.readIar s a.ifc a.ns).trans (.drawn _)))
  | icceoir a data =>
    obtain ⟨why, hr⟩ | hs | hs := writeEoi_cases s a.ifc a.ns data
    · rw [hr] at ht; cases ht
    · rw [hs]; exact .inr (.inl (.refl s))
    · rw [hs]; exact .inr (.inl (.deactivate s a.ifc _))

theorem SameControls.sameSecureControls {s t : State} (h : SameControls s t) :
    SameSecureControls s t := by
  refine ⟨h.dcrS, fun c => ?_⟩
  have hc := h.ifc c
  simpa only [secureFields, Prod.mk.injEq] using hc

/-! ### Non-secure accesses -/

section
variable {s t : State} {i : Instr} {c : Cpu} {n : Nat}

/-- A Non-secure access changes no configuration of a Secure interrupt and no Secure control (R103,
R106). -/
theorem AccessEffect.isolation (he : AccessEffect s i t) (ht : t.unpred = false)
    (hx : s.cfg.secext = true) (hns : (accessInfo i).ns = true) :
    (∀ c n, isSecureInt s c n = true → SameConfig s t c n) ∧ SameSecureControls s t := by
  obtain hw | hsame | ⟨hs, -⟩ := he.controls_cases ht hx (.inl hns)
  · refine ⟨fun c n h => hw.sameConfig ht (hns ▸ .of_secure hx h), hw.dcrS_eq ht hx (.inl hns), ?_⟩
    intro c
    rw [hw.ifc_eq ht c]
    exact ⟨rfl, rfl, rfl, rfl, rfl⟩
  · exact ⟨fun c n _ => hsame.sameConfig c n, hsame.sameSecureControls⟩
  · exact absurd (hns.symm.trans hs) (by decide)

/-- A Non-secure access makes no Secure interrupt active or inactive (R432, R434). -/
theorem AccessEffect.act_of_secure (he : AccessEffect s i t) (ht : t.unpred = false)
    (hx : s.cfg.secext = true) (hns : (accessInfo i).ns = true) (h : isSecureInt s c n = true) :
    act t c n = act s c n := by
  cases he with
  | queued | ignored | read | readDrawn => rfl
  | performed hw => rw [act, act, hw.ifc_eq ht c]
  | iccicr a data => exact (writeIccicr_control a.ifc a.ns data s).act_eq c n
  | iccpmr a data => exact (writeIccpmr_control a.ifc a.ns data s).act_eq c n
  | iccbpr a data => exact (writeIccbpr_control a.ifc a.ns data s).act_eq c n
  | iccabpr a data => exact (writeIccabpr_control a.ifc a.ns data s).act_eq c n
  | icciar a _ =>
    rw [show a.ns = true from hns]
    exact act_readIar_of_secure hx h
  | icceoir a data =>
    rw [show a.ns = true from hns] at ht ⊢
    obtain ⟨why, hr⟩ | hs | ⟨m, hs, hp⟩ := writeEoi_cases_permitted s a.ifc true data
    · rw [hr] at ht; cases ht
    · rw [hs]
    · rw [hs]; exact act_deactivate_of_secure (hp hx) h

/-- A Non-secure access leaves what is pending of a Secure interrupt (R103, R432). -/
theorem AccessEffect.samePending_of_secure (he : AccessEffect s i t) (ht : t.unpred = false)
    (hx : s.cfg.secext = true) (hns : (accessInfo i).ns = true) (h : isSecureInt s c n = true)
    (hp : s.cfg.distEnablePolicy ≠ .either ∨ s.cfg.edgeHighAtEnable = .noEdge) :
    SamePending s t c n := by
  have hcontrol : ∀ {d u}, ControlWrite d s u → SamePending s u c n := by
    rintro d u ⟨j, rfl, -⟩
    exact .refl s c n
  cases he with
  | queued | ignored | read | readDrawn => exact .refl s c n
  | performed hw => exact hw.samePending_of_secure ht hx hns h hp
  | iccicr a data => exact hcontrol (writeIccicr_control a.ifc a.ns data s)
  | iccpmr a data => exact hcontrol (writeIccpmr_control a.ifc a.ns data s)
  | iccbpr a data => exact hcontrol (writeIccbpr_control a.ifc a.ns data s)
  | iccabpr a data => exact hcontrol (writeIccabpr_control a.ifc a.ns data s)
  | icciar a _ =>
    rw [show a.ns = true from hns]
    exact samePending_readIar_of_secure hx h
  | icceoir a data =>
    obtain ⟨why, hr⟩ | hs | hs := writeEoi_cases s a.ifc a.ns data
    · rw [hr] at ht; cases ht
    · rw [hs]; exact .refl s c n
    · rw [hs]
      exact ⟨by simp [latchOf], fun src => by simp [sgipOf]⟩

end

/-- A queued write performed later has the effect of an access (R391). -/
theorem performWrite_effect {i : Instr} {s : State} (ht : (performWrite i s).unpred = false) :
    AccessEffect s i (performWrite i s) := by
  obtain ⟨why, hr⟩ | he := performWrite_cases i s
  · rw [hr] at ht; cases ht
  · exact .performed he

/-- Settles O59: by the effects an access can have, a Distributor write reaching no Secure interrupt and
a CPU interface access no Secure field. -/
theorem nonsecureIsolation : Obligations.NonsecureIsolation := by
  intro i s t hx hns hs hrun ht
  have he : AccessEffect s i t := by
    obtain hexec | rfl := hrun
    · exact exec_effect hexec hs ht
    · exact performWrite_effect ht
  obtain ⟨hconfig, hcontrols⟩ := he.isolation ht hx hns
  exact ⟨fun c n h => ⟨hconfig c n h, he.act_of_secure ht hx hns h,
    he.samePending_of_secure ht hx hns h⟩, hcontrols⟩

/-! ### Lockdown -/

/-- What lockdown protects is the same in two states (R107): the configuration of the locked SPIs, DCR_S
and the fields of ICCICR that Secure accesses reach. -/
structure LockdownKept (s t : State) : Prop where
  config : ∀ c n, locked s n = true → SameConfig s t c n
  dcrS : t.gic.dcrS = s.gic.dcrS
  ifc : ∀ c, (t.ifc c).enableS = (s.ifc c).enableS ∧ (t.ifc c).ackCtl = (s.ifc c).ackCtl ∧
    (t.ifc c).fiqEn = (s.ifc c).fiqEn ∧ (t.ifc c).sbpr = (s.ifc c).sbpr

theorem SameControls.lockdownKept {s t : State} (h : SameControls s t) : LockdownKept s t := by
  refine ⟨fun c n _ => h.sameConfig c n, h.dcrS, fun c => ?_⟩
  obtain ⟨-, hsecure⟩ := h.sameSecureControls
  obtain ⟨henable, hack, hfiq, hsbpr, -⟩ := hsecure c
  exact ⟨henable, hack, hfiq, hsbpr⟩

theorem LockdownKept.trans {s t u : State} (h : LockdownKept s t) (h' : SameControls t u) :
    LockdownKept s u where
  config c n hn := (h.config c n hn).trans (h'.sameConfig c n)
  dcrS := h'.dcrS.trans h.dcrS
  ifc c := by
    obtain ⟨henable, hack, hfiq, hsbpr⟩ := h.ifc c
    obtain ⟨henable', hack', hfiq', hsbpr'⟩ := h'.lockdownKept.ifc c
    exact ⟨henable'.trans henable, hack'.trans hack, hfiq'.trans hfiq, hsbpr'.trans hsbpr⟩

theorem lockActive_secext {s : State} (h : lockActive s = true) : s.cfg.secext = true := by
  simp only [lockActive, Bool.and_eq_true] at h
  exact h.1.1

theorem WriteEffect.lockdownKept {s t : State} {i : Instr} (he : WriteEffect s i t)
    (ht : t.unpred = false) (hl : lockActive s = true) : LockdownKept s t where
  config _ _ hn := he.sameConfig ht (.of_locked hn)
  dcrS := he.dcrS_eq ht (lockActive_secext hl) (.inr hl)
  ifc c := by
    rw [he.ifc_eq ht c]
    exact ⟨rfl, rfl, rfl, rfl⟩

/-- No access changes what is locked down (R107). -/
theorem AccessEffect.lockdownKept {s t : State} {i : Instr} (he : AccessEffect s i t)
    (ht : t.unpred = false) (hl : lockActive s = true) : LockdownKept s t := by
  obtain hw | hsame | ⟨-, d, v, rfl⟩ := he.controls_cases ht (lockActive_secext hl) (.inr hl)
  · exact hw.lockdownKept ht hl
  · exact hsame.lockdownKept
  · refine ⟨fun c n _ => .refl s c n, rfl, fun c => ?_⟩
    rw [State.withIfc_ifc]
    split
    · next hc => rw [hc]; exact ⟨rfl, rfl, rfl, rfl⟩
    · exact ⟨rfl, rfl, rfl, rfl⟩

/-- APPLY_WRITE changes nothing that is locked down, whenever the write was made (R107, R391). -/
theorem lockdownKept_applyWrite {s : State} (ht : (applyWrite s).unpred = false)
    (hl : lockActive s = true) : LockdownKept s (applyWrite s) := by
  obtain hs | hu | ⟨i, rest, -, he⟩ := applyWrite_cases s
  · rw [hs]; exact (SameControls.refl s).lockdownKept
  · exact absurd (hu.symm.trans ht) (by decide)
  · obtain ⟨hconfig, hdcrS, hifc⟩ := he.lockdownKept ht hl
    exact ⟨hconfig, hdcrS, hifc⟩

/-- No event but RESET changes what is locked down (R107). -/
theorem EventEffect.lockdownKept {s t : State} {x : Input} (he : EventEffect s x t)
    (ht : t.unpred = false) (hl : lockActive s = true) : LockdownKept s t := by
  cases he with
  | unchanged | inputs | edge =>
    exact ⟨fun c n _ => .refl s c n, rfl, fun c => ⟨rfl, rfl, rfl, rfl⟩⟩
  | evaluated c => exact (SameControls.evaluate s c).lockdownKept
  | windowClosed n => exact (SameControls.setAckWindow s n _).lockdownKept
  | applied => exact lockdownKept_applyWrite ht hl

/-- Settles O60: every effect a step can have keeps what is locked down, RESET excepted. -/
theorem lockdownFrame : Obligations.LockdownFrame := by
  intro s t hs hl hstep ht
  have hqueue : ∀ {rest}, LockdownKept { s with inputs := rest } t → LockdownKept s t :=
    fun h => ⟨h.config, h.dcrS, h.ifc⟩
  suffices h : (∃ rest, s.inputs = .reset :: rest) ∨ LockdownKept s t from
    h.imp_right fun hkept => ⟨hkept.config, hkept.dcrS, hkept.ifc⟩
  obtain ⟨-, hu, heq⟩ | ⟨x, rest, hq, ⟨rfl, -⟩ | ⟨i, -, he⟩ | he⟩ := step_effect hstep hs ht
  · have hround : SameControls (applyWrite s) t := by
      rw [heq]
      exact (SameControls.closeAllWindows _).trans (SameControls.evaluateAll _)
    exact .inr ((lockdownKept_applyWrite hu hl).trans hround)
  · exact .inl ⟨rest, hq⟩
  · exact .inr (hqueue (he.lockdownKept ht hl))
  · exact .inr (hqueue (he.lockdownKept ht hl))

/-! ## The course of every access: the requester and the interface are checked, then size and alignment,
and then the register has its effect. -/

/-- The course of an access: every Distributor read and write and every CPU interface access has one
form, with its own effect `e` (R12, R83 to R86, R391). -/
inductive Course (s : State) (i : Instr) : Prop
  | distRead (a : DistArgs) (bytes : Bool) (e : State)
      (hi : accessInfo i = ⟨a.lane, a.size, a.ns, a.req, none, false, bytes⟩)
      (he : exec i s = onDist a s (sized bytes a.lane a.size s e))
  | distWrite (a : DistArgs) (bytes : Bool) (e : State)
      (hi : accessInfo i = ⟨a.lane, a.size, a.ns, a.req, none, true, bytes⟩)
      (he : exec i s = writeDist a i s (performWrite i s))
      (hp : performWrite i s = sized bytes a.lane a.size s e)
  | cpu (a : CpuArgs) (write : Bool) (e : State)
      (hi : accessInfo i = ⟨a.lane, a.size, a.ns, a.req, some a.ifc, write, false⟩)
      (he : exec i s = onCpu a s (sized false a.lane a.size s e))

theorem exec_course (i : Instr) (s : State) : Course s i := by
  cases i
  -- Reads of the Distributor.
  case rdIcddcr | rdIcdictr | rdIcdiidr | rdRes00C | rdIcdisr | rdIcdiser | rdIcdicer | rdIcdispr |
      rdIcdicpr | rdIcdabr | rdRes380 | rdRes7FC | rdIcdipr | rdResBFC | rdIcdiptrPriv |
      rdIcdiptrSpi | rdIcdicfr | rdImpD00 | rdResE00 | rdIcdsgir | rdIcpidr4 | rdIcpidr5 |
      rdIcpidr6 | rdIcpidr7 | rdIcpidr0 | rdIcpidr1 | rdIcpidr2 | rdIcpidr3 | rdIccidr0 |
      rdIccidr1 | rdIccidr2 | rdIccidr3 | rdResF04 => exact .distRead _ _ _ rfl rfl
  -- Reads and writes of a CPU interface.
  case rdIccicr | wrIccicr | rdIccpmr | wrIccpmr | rdIccbpr | wrIccbpr | rdIcciar | wrIcciar |
      rdIcceoir | wrIcceoir | rdIccrpr | wrIccrpr | rdIcchpir | wrIcchpir | rdIccabpr | wrIccabpr |
      rdRes20 | wrRes20 | rdImp40 | wrImp40 | rdImp80 | wrImp80 | rdImpC0 | wrImpC0 | rdIcciidr |
      wrIcciidr | rdResD0 | wrResD0 | rdResE0 | wrResE0 => exact .cpu _ _ _ rfl rfl
  -- Writes of the Distributor.
  all_goals exact .distWrite _ _ _ rfl rfl rfl

/-! ### Sizes and alignments -/

/-- The checks of R83 to R86 find exactly the unsupported accesses. -/
theorem unsupported_iff {s : State} {i : Instr} :
    Unsupported s i ↔ accessError s.cfg (accessInfo i).bytes (accessInfo i).lane
      (accessInfo i).size ≠ none := by
  unfold Unsupported accessError
  simp only
  cases (accessInfo i).size with
  | word => simp
  | halfword =>
    generalize (accessInfo i).lane.getLsbD 0 = odd
    cases odd <;> cases (accessInfo i).bytes <;> simp
  | byte => simp

/-- An access of an unsupported size or alignment raises Unpredictable (R84 to R86). -/
theorem sized_unsupported {s e : State} {bytes : Bool} {lane : BitVec 2} {size : AccessSize}
    (h : accessError s.cfg bytes lane size ≠ none) : (sized bytes lane size s e).unpred = true := by
  unfold sized
  split
  · rfl
  · next hn => exact absurd hn h

/-- Performing a queued write of an unsupported size or alignment raises Unpredictable (log 16). -/
theorem performWrite_unsupported {i : Instr} {s : State} (hw : (accessInfo i).write = true)
    (hd : (accessInfo i).ifc = none) (h : Unsupported s i) : (performWrite i s).unpred = true := by
  have herror := unsupported_iff.mp h
  obtain ⟨a, bytes, e, hi, -⟩ | ⟨a, bytes, e, hi, -, hp⟩ | ⟨a, write, e, hi, -⟩ := exec_course i s
  · rw [hi] at hw; cases hw
  · rw [hi] at herror
    rw [hp]
    exact sized_unsupported herror
  · rw [hi] at hd; cases hd

/-- An accepted access of an unsupported size or alignment, if it is not queued, raises Unpredictable. -/
theorem exec_unsupported {i : Instr} {s : State} (hs : s.unpred = false) (hacc : Accepted s i)
    (h : Unsupported s i)
    (himm : (accessInfo i).write = true → (accessInfo i).ifc = none → Immediate s) :
    ∃ t, exec i s = .next t ∧ t.unpred = true := by
  have herror := unsupported_iff.mp h
  obtain ⟨hreq, hifc⟩ := hacc
  obtain ⟨a, bytes, e, hi, he⟩ | ⟨a, bytes, e, hi, he, hp⟩ | ⟨a, write, e, hi, he⟩ := exec_course i s
  · rw [hi] at herror hreq
    exact ⟨_, he.trans (onDist_eq hreq hs), sized_unsupported herror⟩
  · rw [hi] at herror hreq himm
    refine ⟨_, he.trans (writeDist_eq hreq hs (himm rfl rfl).notDelayed), ?_⟩
    rw [hp]
    exact sized_unsupported herror
  · rw [hi] at herror hreq hifc
    obtain ⟨hexists, hreach⟩ := hifc a.ifc rfl
    exact ⟨_, he.trans (onCpu_eq hreq hexists hreach hs), sized_unsupported herror⟩

/-- APPLY_WRITE of an unsupported write (R391, log 16). -/
theorem applyWrite_unsupported {i : Instr} {s : State} {q : List Instr} (hq : s.gic.wq = i :: q)
    (hw : (accessInfo i).write = true) (hd : (accessInfo i).ifc = none) (h : Unsupported s i) :
    (applyWrite s).unpred = true := by
  unfold applyWrite
  rw [hq]
  exact performWrite_unsupported hw hd h

/-- Settles O6: the size check comes before the effect of the register, in an access as in a queued
write. -/
theorem unsupportedSizeIsUnpredictable : Obligations.UnsupportedSizeIsUnpredictable := by
  refine ⟨fun i s hs hacc h himm => exec_unsupported hs hacc h himm, ?_⟩
  rintro i s q hs hq hw hd h (hin | ⟨rest, hin⟩)
  · have hu := applyWrite_unsupported hq hw hd h
    refine ⟨idle s, by simp [step, takeInput, hin], ?_⟩
    simp [idle, unlessUnpred_eq hs, hu]
  · refine ⟨applyWrite { s with inputs := rest }, ?_, applyWrite_unsupported hq hw hd h⟩
    simp only [step, takeInput, hin, event]
    exact congrArg Host.Outcome.next (unlessUnpred_eq (s := { s with inputs := rest }) hs)

/-! ### What an access keeps -/

/-- The configuration, the inputs and the operations still to come are the same in two states. -/
structure SameEnvironment (s t : State) : Prop where
  cfg : t.cfg = s.cfg
  line : t.line = s.line
  cfgsdisable : t.cfgsdisable = s.cfgsdisable
  legacyIrq : t.legacyIrq = s.legacyIrq
  legacyFiq : t.legacyFiq = s.legacyFiq
  inputs : t.inputs = s.inputs

namespace SameEnvironment

theorem refl (s : State) : SameEnvironment s s := ⟨rfl, rfl, rfl, rfl, rfl, rfl⟩

/-- Nothing but the GIC, UNPRED and the count of values drawn is changed. -/
theorem of_gic (s : State) (g : Gic) (u : Bool) (k : Nat) :
    SameEnvironment s { s with gic := g, unpred := u, tick := k } :=
  ⟨rfl, rfl, rfl, rfl, rfl, rfl⟩

theorem acknowledge (s : State) (c : Cpu) (p : IntRef) : SameEnvironment s (acknowledge s c p) := by
  unfold Machine.acknowledge clearPending
  split <;> split <;> exact .of_gic s _ _ _

theorem readIar (s : State) (c : Cpu) (ns : Bool) : SameEnvironment s (readIar s c ns) := by
  obtain ⟨v, he⟩ | ⟨p, v, -, he | he⟩ := readIar_cases s c ns <;> rw [he]
  · exact .of_gic s _ _ _
  · exact .of_gic s _ _ _
  · obtain ⟨hcfg, hline, hdisable, hirq, hfiq, hinputs⟩ := acknowledge (closeOwnWindows s c) c p
    exact ⟨hcfg, hline, hdisable, hirq, hfiq, hinputs⟩

theorem writeEoi (s : State) (c : Cpu) (ns : Bool) (data : Word) :
    SameEnvironment s (writeEoi s c ns data) := by
  obtain ⟨why, he⟩ | he | he := writeEoi_cases s c ns data <;> rw [he]
  · exact .of_gic s _ _ _
  · exact .refl s
  · unfold deactivate
    split <;> exact .of_gic s _ _ _

theorem writeIcddcr (s : State) (ns : Bool) (data : Word) :
    SameEnvironment s (writeIcddcr ns data s) := by
  have hset : SameEnvironment s (setEnableBit ns data s) := by
    obtain he | ⟨v, he⟩ | ⟨v, he⟩ := setEnableBit_cases ns data s <;> rw [he]
    · exact .refl s
    · exact .of_gic s _ _ _
    · exact .of_gic s _ _ _
  unfold Machine.writeIcddcr
  simp only
  split
  · obtain ⟨hcfg, hline, hdisable, hirq, hfiq, hinputs⟩ := hset
    exact ⟨hcfg, hline, hdisable, hirq, hfiq, hinputs⟩
  · exact hset

end SameEnvironment

theorem WriteEffect.sameEnvironment {s t : State} {i : Instr} (he : WriteEffect s i t) :
    SameEnvironment s t := by
  cases he with
  | ignored => exact .refl s
  | icdiser | icdicer | icdispr | icdicpr | icdipr | icdiptrPriv | icdiptrSpi =>
    exact .of_gic s _ _ _
  | icddcr a data => exact .writeIcddcr s a.ns data
  | icdisr m a data =>
    obtain ⟨why, hr⟩ | ⟨v, hv⟩ := writeIcdisr_cases (sourceId s.cfg a.req) a.ns m.toNat data s
    · rw [hr]; exact .of_gic s _ _ _
    · rw [hv]; exact .of_gic s _ _ _
  | icdicfr m a data =>
    obtain ⟨why, hr⟩ | ⟨v, hv⟩ := writeIcdicfr_cases (sourceId s.cfg a.req) a.ns m.toNat data s
    · rw [hr]; exact .of_gic s _ _ _
    · rw [hv]; exact .of_gic s _ _ _
  | icdsgir a data =>
    obtain ⟨why, hr⟩ | ⟨v, hv, -⟩ := writeIcdsgir_cases (sourceId s.cfg a.req) a.ns data s
    · rw [hr]; exact .of_gic s _ _ _
    · rw [hv]; exact .of_gic s _ _ _

theorem ControlWrite.sameEnvironment {c : Cpu} {s t : State} (h : ControlWrite c s t) :
    SameEnvironment s t := by
  obtain ⟨i, rfl, -⟩ := h
  exact .of_gic s _ _ _

theorem AccessEffect.sameEnvironment {s t : State} {i : Instr} (he : AccessEffect s i t) :
    SameEnvironment s t := by
  cases he with
  | queued | read | readDrawn => exact .of_gic s _ _ _
  | ignored => exact .refl s
  | performed hw => exact hw.sameEnvironment
  | iccicr a data => exact (writeIccicr_control a.ifc a.ns data s).sameEnvironment
  | iccpmr a data => exact (writeIccpmr_control a.ifc a.ns data s).sameEnvironment
  | iccbpr a data => exact (writeIccbpr_control a.ifc a.ns data s).sameEnvironment
  | iccabpr a data => exact (writeIccabpr_control a.ifc a.ns data s).sameEnvironment
  | icciar a _ =>
    obtain ⟨hcfg, hline, hdisable, hirq, hfiq, hinputs⟩ := SameEnvironment.readIar s a.ifc a.ns
    exact ⟨hcfg, hline, hdisable, hirq, hfiq, hinputs⟩
  | icceoir a data => exact .writeEoi s a.ifc a.ns data

/-- No access changes the configuration, the inputs or the queue, whatever it raises (R91). -/
theorem exec_sameEnvironment {i : Instr} {s t : State} (h : exec i s = .next t) :
    SameEnvironment s t := by
  obtain ⟨-, rfl⟩ | ⟨-, ⟨why, rfl⟩ | he⟩ := exec_next h
  · exact .of_gic s _ _ _
  · exact .of_gic s _ _ _
  · exact he.sameEnvironment

/-! ### Acceptance -/

theorem onDist_refused {a : DistArgs} {s e : State} (h : requesterExists s.cfg a.req ≠ true) :
    onDist a s e = .refused .noSuchRequester :=
  if_neg h

theorem onCpu_refused {a : CpuArgs} {s e : State} (h : ¬ (requesterExists s.cfg a.req = true ∧
      cpuExists s.cfg a.ifc = true ∧ interfaceReachable s.cfg a.req a.ifc = true)) :
    ∃ r, onCpu a s e = .refused r := by
  unfold onCpu
  split
  · exact ⟨_, rfl⟩
  split
  · exact ⟨_, rfl⟩
  split
  · exact ⟨_, rfl⟩
  · next hreq hexists hreach =>
    exact absurd ⟨by simpa using hreq, by simpa using hexists, by simpa using hreach⟩ h

theorem onCpu_accepted {a : CpuArgs} {s e : State} (hr : requesterExists s.cfg a.req = true)
    (hi : cpuExists s.cfg a.ifc = true) (hx : interfaceReachable s.cfg a.req a.ifc = true) :
    onCpu a s e = .next (if s.unpred then havoc s else e) := by
  simp [onCpu, hr, hi, hx]

/-- An accepted access answers a next state, from whatever state (R91). -/
theorem exec_accepted {i : Instr} {s : State} (h : Accepted s i) : ∃ t, exec i s = .next t := by
  obtain ⟨hreq, hifc⟩ := h
  obtain ⟨a, bytes, e, hi, he⟩ | ⟨a, bytes, e, hi, he, -⟩ | ⟨a, write, e, hi, he⟩ := exec_course i s
  · rw [hi] at hreq
    exact ⟨_, he.trans (if_pos hreq)⟩
  · rw [hi] at hreq
    exact ⟨_, he.trans (if_pos hreq)⟩
  · rw [hi] at hreq hifc
    obtain ⟨hexists, hreach⟩ := hifc a.ifc rfl
    exact ⟨_, he.trans (onCpu_accepted hreq hexists hreach)⟩

/-- Every other access is refused (R101, log 10). -/
theorem exec_not_accepted {i : Instr} {s : State} (h : ¬ Accepted s i) :
    ∃ r, exec i s = .refused r := by
  unfold Accepted at h
  obtain ⟨a, bytes, e, hi, he⟩ | ⟨a, bytes, e, hi, he, -⟩ | ⟨a, write, e, hi, he⟩ := exec_course i s
  · rw [hi] at h
    exact ⟨_, he.trans (onDist_refused fun hreq => h ⟨hreq, nofun⟩)⟩
  · rw [hi] at h
    exact ⟨_, he.trans (onDist_refused fun hreq => h ⟨hreq, nofun⟩)⟩
  · rw [hi] at h
    rw [he]
    refine onCpu_refused fun ⟨hreq, hexists, hreach⟩ => h ⟨hreq, ?_⟩
    intro c hc
    obtain rfl : a.ifc = c := Option.some.inj hc
    exact ⟨hexists, hreach⟩

/-- Settles O5: the course of an access decides whether it is accepted, its effects what it keeps. -/
theorem noAccessFaults : Obligations.NoAccessFaults := by
  refine fun i s => ⟨fun hacc => ?_, exec_not_accepted⟩
  obtain ⟨t, ht⟩ := exec_accepted hacc
  obtain ⟨hcfg, hline, hdisable, hirq, hfiq, hinputs⟩ := exec_sameEnvironment ht
  exact ⟨t, ht, hcfg, hline, hdisable, hirq, hfiq, hinputs⟩

/-! ## IMPLEMENTATION DEFINED offsets. -/

theorem impdefValue_razWi {s : State} (h : s.cfg.impdefRegs = .razWi) : impdefValue s = 0#32 := by
  simp [impdefValue, h]

/-- Settles O12: the value read is that of IMPDEF_REGS, and no write has an effect. -/
theorem implementationDefinedAddresses : Obligations.ImplementationDefinedAddresses := by
  refine ⟨fun s a m h => ⟨⟨impdefValue s, h.effect, impdefValue_razWi⟩, fun _ hi => h.write hi⟩,
    fun s a h => ?_⟩
  exact ⟨fun _ => ⟨impdefValue s, h.effect, impdefValue_razWi⟩, fun _ _ => h.write,
    fun _ => ⟨impdefValue s, h.effect, impdefValue_razWi⟩, fun _ _ => h.write,
    fun _ => ⟨impdefValue s, h.effect, impdefValue_razWi⟩, fun _ _ => h.write⟩

/-! ## The instruction of a step: by access word and by physical address. -/

/-- A word placed by withFetchWord runs its instruction in the very state (R121, log 2). -/
theorem step_withFetchWord {s : State} {w : Nat} {i : Instr} (h : decodeTableWord 64 w = some i) :
    step (s.withFetchWord 64 w) = exec i s := by
  unfold decodeTableWord at h
  simp only at h
  split at h
  · next j hj =>
    cases h
    exact step_access rfl hj
  · cases h

theorem inDistBlock_iff {cfg : Config} {addr : Nat} :
    inDistBlock cfg addr = true ↔ cfg.distBase ≤ addr ∧ addr < cfg.distBase + 0x1000 := by
  simp [inDistBlock, distBlockSize]

theorem inCpuBlock_iff {cfg : Config} {c : Cpu} {addr : Nat} :
    inCpuBlock cfg c addr = true ↔
      c.val < ncpu cfg ∧ cfg.cpuBase[c] ≤ addr ∧ addr < cfg.cpuBase[c] + 0x100 := by
  simp only [inCpuBlock, cpuExists, Bool.and_eq_true, decide_eq_true_eq, and_assoc]
  rfl

theorem memAccessWord_dist {cfg : Config} {m : MemAccess} (h : inDistBlock cfg m.addr = true) :
    memAccessWord cfg m = some (accessWord m false 0#3 (m.addr - cfg.distBase)) :=
  if_pos h

theorem memAccessWord_cpu {cfg : Config} {m : MemAccess} (h : ¬ inDistBlock cfg m.addr = true) :
    memAccessWord cfg m = (addressedInterface cfg m.req m.addr).map fun c =>
      accessWord m true (BitVec.ofFin c) (m.addr - cpuBase cfg c) :=
  if_neg h

/-- Bits [20:12] of the access word of a Distributor access: REQV, REQ, SZ, NS, WR and block (R120). -/
def accessOperands (m : MemAccess) : BitVec 9 :=
  encodeRequester m.req ++ encodeSize m.size ++ BitVec.ofBool m.ns ++ BitVec.ofBool m.write ++ 0#1

theorem accessWord_dist (m : MemAccess) (off : Nat) :
    accessWord m false 0#3 off = (0#11 ++ accessOperands m ++ BitVec.ofNat 12 off : BitVec 32) := by
  apply BitVec.eq_of_toNat_eq
  simp only [accessWord, accessOperands, toNat_append_eq, BitVec.toNat_ofBool, Bool.toNat_false,
    BitVec.toNat_ofNat]
  omega

/-- The block bit of a CPU interface access (R120). -/
theorem accessOperands_or_one (m : MemAccess) :
    (accessOperands m ||| 1#9).toNat = (accessOperands m).toNat + 1 := by
  obtain ⟨k, hk⟩ : ∃ k, (accessOperands m).toNat = k <<< 1 := by
    rw [accessOperands, toNat_append_eq, BitVec.toNat_ofNat, Nat.zero_mod, Nat.add_zero,
      ← Nat.shiftLeft_eq]
    exact ⟨_, rfl⟩
  rw [BitVec.toNat_or, hk, BitVec.toNat_ofNat]
  exact (Nat.shiftLeft_add_eq_or_of_lt (by decide) k).symm

theorem accessWord_cpu (m : MemAccess) (c : Cpu) (off : Nat) :
    accessWord m true (BitVec.ofFin c) off =
      (0#8 ++ (BitVec.ofFin c : BitVec 3) ++ (accessOperands m ||| 1#9) ++ BitVec.ofNat 12 off
        : BitVec 32) := by
  apply BitVec.eq_of_toNat_eq
  rw [toNat_append_eq, toNat_append_eq, accessOperands_or_one]
  simp only [accessWord, accessOperands, toNat_append_eq, BitVec.toNat_ofBool, Bool.toNat_true,
    BitVec.toNat_ofNat]
  omega

/-- Settles O4: an access word is decoded, an address resolved to the access word of its register. -/
theorem stepRunsDecodedInstruction : Obligations.StepRunsDecodedInstruction := by
  refine ⟨fun s aw data rest i hq hd _ => step_access hq hd,
    fun s w i hd _ => step_withFetchWord hd, fun s m rest hq => ?_⟩
  simp only [← inDistBlock_iff, ← inCpuBlock_iff]
  refine ⟨fun hdist => ?_, fun hdist c hc hown => ?_, fun hdist hnone => ?_⟩
  · rw [step_mem hq (memAccessWord_dist hdist), accessWord_dist]
    rfl
  · have hifc : addressedInterface s.cfg m.req m.addr = some c :=
      addressedInterface_eq_some.mpr ⟨hc, hown⟩
    have hword := memAccessWord_cpu hdist
    rw [hifc, Option.map_some, accessWord_cpu] at hword
    exact step_mem hq hword
  · have hifc : addressedInterface s.cfg m.req m.addr = none := by
      rw [Option.eq_none_iff_forall_not_mem]
      intro c hc
      obtain ⟨hholds, hown⟩ := addressedInterface_eq_some.mp hc
      obtain ⟨hforeign, d, hd, hne⟩ := hnone c hholds
      exact hown.elim hforeign fun honly => hne (honly d hd)
    have hword := memAccessWord_cpu hdist
    rw [hifc, Option.map_none] at hword
    exact step_mem_none hq hword

end Sys2Proof.Machine
end

section
/-! SUPPORT. The fields of an access word, the register maps in both directions, and what the decoder
answers: the statements about the decoder and the encoder (R120 to R123), settled. -/

namespace Sys2Proof.Machine

/-! ## Concatenations of fields. -/

/-- A field is a concatenation exactly when its high and its low part are the two words. -/
theorem extractLsb'_eq_append_iff {n k v w : Nat} {z : BitVec n} {x : BitVec v} {y : BitVec w} :
    z.extractLsb' k (v + w) = x ++ y ↔ z.extractLsb' (k + w) v = x ∧ z.extractLsb' k w = y := by
  rw [← BitVec.extractLsb'_append_extractLsb'_eq_extractLsb' rfl]
  constructor
  · intro h
    have hx := congrArg (BitVec.extractLsb' w v) h
    have hy := congrArg (BitVec.extractLsb' 0 w) h
    rw [BitVec.extractLsb'_append_eq_left, BitVec.extractLsb'_append_eq_left] at hx
    rw [BitVec.extractLsb'_append_eq_right, BitVec.extractLsb'_append_eq_right] at hy
    exact ⟨hx, hy⟩
  · rintro ⟨rfl, rfl⟩
    rfl

theorem extractLsb'_eq_ofBool_iff {n k : Nat} {z : BitVec n} {b : Bool} :
    z.extractLsb' k 1 = BitVec.ofBool b ↔ z.getLsbD k = b := by
  have hbit : z.extractLsb' k 1 = BitVec.ofBool (z.getLsbD k) := by
    ext j hj
    obtain rfl : j = 0 := by omega
    simp
  rw [hbit, BitVec.ofBool_eq_iff_eq]

/-! ## The access word of given fields. -/

/-- The access word with REQV and REQ, the other operands, and all of OFF as they are (R120): what
`distWord` and `cpuWord` have in common, and every word the decoder accepts. -/
def fieldWord (ifc : BitVec 3) (valid : Bool) (req : BitVec 3) (size : AccessSize)
    (ns write cpu : Bool) (off : BitVec 10) (lane : BitVec 2) : Word :=
  (0#8 ++ ifc ++ (BitVec.ofBool valid ++ req) ++ encodeSize size ++ BitVec.ofBool ns
    ++ BitVec.ofBool write ++ BitVec.ofBool cpu ++ off ++ lane : BitVec 32)

section
variable {aw data : Word} {i : Instr} {ifc req : BitVec 3} {valid ns write cpu : Bool}
  {size : AccessSize} {off : BitVec 10} {lane : BitVec 2}

/-- The layout of R120: no two words have the same fields, and every field can be read back. -/
theorem fieldWord_eq_iff : fieldWord ifc valid req size ns write cpu off lane = aw ↔
    aw.extractLsb' 24 8 = 0#8 ∧ aw.extractLsb' 21 3 = ifc ∧ aw.getLsbD 20 = valid ∧
      aw.extractLsb' 17 3 = req ∧ aw.extractLsb' 15 2 = encodeSize size ∧ aw.getLsbD 14 = ns ∧
      aw.getLsbD 13 = write ∧ aw.getLsbD 12 = cpu ∧ aw.extractLsb' 2 10 = off ∧
      aw.extractLsb' 0 2 = lane := by
  conv_lhs => rw [eq_comm, ← BitVec.extractLsb'_eq_self (x := aw)]
  refine (extractLsb'_eq_append_iff (k := 0)
    (v := 8 + 3 + (1 + 3) + 2 + 1 + 1 + 1 + 10) (w := 2)).trans ?_
  -- The widths stay sums, so that the rule finds the next concatenation.
  simp only [extractLsb'_eq_append_iff, extractLsb'_eq_ofBool_iff, and_assoc, -Nat.reduceAdd]

/-- OFF in a CPU interface block, below 0x100 (R121). -/
theorem cpuOffset_eq_iff {off : BitVec 6} :
    aw.extractLsb' 2 10 = 0#4 ++ off ↔ aw.extractLsb' 8 4 = 0#4 ∧ aw.extractLsb' 2 6 = off :=
  extractLsb'_eq_append_iff (v := 4) (w := 6)

/-! ### Size and requester -/

theorem decodeSize_eq_some_iff {sz : BitVec 2} :
    decodeSize sz = some size ↔ sz = encodeSize size := by
  cases size <;> revert sz <;> decide

theorem encodeRequester_eq (req : Option Cpu) :
    encodeRequester req = BitVec.ofBool req.isSome ++ (BitVec.ofFin (req.getD 0) : BitVec 3) := by
  cases req <;> rfl

theorem decodeRequester_isSome (req : Option Cpu) :
    decodeRequester req.isSome (BitVec.ofFin (req.getD 0)) = req := by
  cases req <;> rfl

theorem encodeRequester_decodeRequester (req : BitVec 3) :
    encodeRequester (decodeRequester true req) = BitVec.ofBool true ++ req := rfl

/-! ### The words of the encoder -/

theorem distWord_eq_fieldWord {r : DistReg} {a : DistArgs}
    (h : encodeRequester a.req = BitVec.ofBool valid ++ req) :
    distWord r write a = fieldWord 0#3 valid req a.size a.ns write false r.offset a.lane := by
  unfold distWord
  rw [h]
  rfl

theorem cpuWord_eq_fieldWord {r : CpuReg} {a : CpuArgs}
    (h : encodeRequester a.req = BitVec.ofBool valid ++ req) :
    cpuWord r write a =
      fieldWord (BitVec.ofFin a.ifc) valid req a.size a.ns write true (0#4 ++ r.offset) a.lane := by
  apply BitVec.eq_of_toNat_eq
  simp only [cpuWord, fieldWord, h, toNat_append_eq, BitVec.toNat_ofBool, Bool.toNat_true,
    BitVec.toNat_ofNat]
  omega

/-! ## What the decoder answers, said once: one constructor for each block. -/

/-- The instruction of an access word whose fields are known (R121). -/
inductive Decodes (data : Word) : Word → Instr → Prop
  | dist (valid : Bool) (req : BitVec 3) (size : AccessSize) (ns write : Bool) (off : BitVec 10)
      (lane : BitVec 2) :
      Decodes data (fieldWord 0#3 valid req size ns write false off lane)
        ((distMap off).instr write ⟨lane, size, ns, decodeRequester valid req⟩ data)
  | cpu (ifc : BitVec 3) (valid : Bool) (req : BitVec 3) (size : AccessSize) (ns write : Bool)
      (off : BitVec 6) (lane : BitVec 2) :
      Decodes data (fieldWord ifc valid req size ns write true (0#4 ++ off) lane)
        ((cpuMap off).instr write ⟨lane, size, ns, decodeRequester valid req, ifc.toFin⟩ data)

/-- A word the decoder accepts is the word of its fields. -/
theorem decodes_of_decode (h : decode aw data = .ok i) : Decodes data aw i := by
  simp only [decode] at h
  split at h
  · cases h
  next hunused =>
  split at h
  · cases h
  next size hsize =>
  have hsize := decodeSize_eq_some_iff.mp hsize
  have hunused := not_not.mp hunused
  split at h
  next hblk =>
    split at h
    · cases h
    next hhigh =>
    have hword := fieldWord_eq_iff.mpr ⟨hunused, rfl, rfl, rfl, hsize, rfl, rfl, hblk,
      cpuOffset_eq_iff.mpr ⟨not_not.mp hhigh, rfl⟩, rfl⟩
    cases h
    have hdec := Decodes.cpu (data := data) (aw.extractLsb' 21 3) (aw.getLsbD 20)
      (aw.extractLsb' 17 3) size (aw.getLsbD 14) (aw.getLsbD 13) (aw.extractLsb' 2 6)
      (aw.extractLsb' 0 2)
    rwa [hword] at hdec
  next hblk =>
    split at h
    · cases h
    next hifc =>
    have hword := fieldWord_eq_iff.mpr ⟨hunused, not_not.mp hifc, rfl, rfl, hsize, rfl, rfl,
      eq_false_of_ne_true hblk, rfl, rfl⟩
    cases h
    have hdec := Decodes.dist (data := data) (aw.getLsbD 20) (aw.extractLsb' 17 3) size
      (aw.getLsbD 14) (aw.getLsbD 13) (aw.extractLsb' 2 10) (aw.extractLsb' 0 2)
    rwa [hword] at hdec

/-- The decoder accepts every word of fields. -/
theorem decode_of_decodes (h : Decodes data aw i) : decode aw data = .ok i := by
  cases h with
  | dist valid req size ns write off lane =>
    obtain ⟨hunused, hifc, hvalid, hreq, hsize, hns, hwrite, hblk, hoff, hlane⟩ :=
      fieldWord_eq_iff.mp (Eq.refl (fieldWord 0#3 valid req size ns write false off lane))
    simp only [decode, hunused, hifc, hvalid, hreq, decodeSize_eq_some_iff.mpr hsize, hns, hwrite,
      hblk, hoff, hlane, ne_eq, not_true_eq_false, Bool.false_eq_true, if_false]
  | cpu ifc valid req size ns write off lane =>
    obtain ⟨hunused, hifc, hvalid, hreq, hsize, hns, hwrite, hblk, hoff, hlane⟩ :=
      fieldWord_eq_iff.mp (Eq.refl (fieldWord ifc valid req size ns write true (0#4 ++ off) lane))
    obtain ⟨hhigh, hoff⟩ := cpuOffset_eq_iff.mp hoff
    simp only [decode, hunused, hifc, hvalid, hreq, decodeSize_eq_some_iff.mpr hsize, hns, hwrite,
      hblk, hhigh, hoff, hlane, ne_eq, not_true_eq_false, if_true, if_false]

end

/-! ## The register maps: offset to register and back. -/

/-- The register of an offset is well formed and lies at that offset (R122). -/
theorem distMap_spec (w : BitVec 10) :
    (distMap w).wellFormed = true ∧ (distMap w).offset = w := by
  rw [← BitVec.toNat_inj]
  fun_cases distMap w <;>
    simp only [DistReg.wellFormed, DistReg.offset, toNat_append_eq, BitVec.toNat_setWidth,
      BitVec.toNat_ofNat, decide_eq_true_eq, true_and] <;>
    omega

/-- The register of an offset is well formed and lies at that offset (R123). -/
theorem cpuMap_spec (w : BitVec 6) :
    (cpuMap w).wellFormed = true ∧ (cpuMap w).offset = w := by
  rw [← BitVec.toNat_inj]
  fun_cases cpuMap w <;>
    simp only [CpuReg.wellFormed, CpuReg.offset, toNat_append_eq, BitVec.toNat_setWidth,
      BitVec.toNat_ofNat, decide_eq_true_eq, true_and] <;>
    omega

/-- A range's index is what its offset holds below the bits that select the range; every other
register has one offset. -/
theorem distMap_offset {r : DistReg} (h : r.wellFormed = true) : distMap r.offset = r := by
  cases r with
  | res00C m | icdisr m | icdiser m | icdicer m | icdispr m | icdicpr m | icdabr m | res380 m
  | icdipr m | icdiptrPriv m | icdiptrSpi m | icdicfr m | impD00 m | resE00 m | resF04 m =>
    simp only [DistReg.wellFormed, decide_eq_true_eq] at h
    simp (disch := omega) only [distMap, DistReg.offset, toNat_append_eq, BitVec.toNat_ofNat, if_pos,
      if_neg, BitVec.setWidth_append_eq_right]
  | _ => rfl

theorem cpuMap_offset {r : CpuReg} (h : r.wellFormed = true) : cpuMap r.offset = r := by
  cases r with
  | res20 m | imp40 m | imp80 m | impC0 m | resD0 m | resE0 m =>
    simp only [CpuReg.wellFormed, decide_eq_true_eq] at h
    simp (disch := omega) only [cpuMap, CpuReg.offset, toNat_append_eq, BitVec.toNat_ofNat, if_pos,
      if_neg, BitVec.setWidth_append_eq_right]
  | _ => rfl

/-! ## An instruction as a register, a direction, operands and data: what the tables of the model say
of `DistReg.instr` and `CpuReg.instr`, checked row by row. -/

section
variable {i : Instr} (w : Bool) (data : Word)

theorem register_distInstr (r : DistReg) (a : DistArgs) : (r.instr w a data).register = .inl r := by
  cases r <;> cases w <;> rfl

theorem register_cpuInstr (r : CpuReg) (a : CpuArgs) : (r.instr w a data).register = .inr r := by
  cases r <;> cases w <;> rfl

theorem wellFormed_distInstr (r : DistReg) (a : DistArgs) :
    (r.instr w a data).wellFormed = r.wellFormed := by
  rw [Instr.wellFormed, register_distInstr]

theorem wellFormed_cpuInstr (r : CpuReg) (a : CpuArgs) :
    (r.instr w a data).wellFormed = r.wellFormed := by
  rw [Instr.wellFormed, register_cpuInstr]

theorem write_distInstr (r : DistReg) (a : DistArgs) : (accessInfo (r.instr w a data)).write = w := by
  cases r <;> cases w <;> rfl

theorem write_cpuInstr (r : CpuReg) (a : CpuArgs) : (accessInfo (r.instr w a data)).write = w := by
  cases r <;> cases w <;> rfl

theorem encode_distInstr (r : DistReg) (a : DistArgs) :
    encode (r.instr w a data) = (distWord r w a, if w then data else 0#32) := by
  cases r <;> cases w <;> rfl

theorem encode_cpuInstr (r : CpuReg) (a : CpuArgs) :
    encode (r.instr w a data) = (cpuWord r w a, if w then data else 0#32) := by
  cases r <;> cases w <;> rfl

/-- A read has no data. -/
theorem distInstr_data (r : DistReg) (a : DistArgs) :
    r.instr w a (if w then data else 0#32) = r.instr w a data := by
  cases r <;> cases w <;> rfl

theorem cpuInstr_data (r : CpuReg) (a : CpuArgs) :
    r.instr w a (if w then data else 0#32) = r.instr w a data := by
  cases r <;> cases w <;> rfl

/-- Every instruction of a Distributor register is its read or its write. -/
theorem exists_distInstr {r : DistReg} (h : i.register = .inl r) :
    ∃ w a data, i = r.instr w a data := by
  let info := accessInfo i
  refine ⟨info.write, ⟨info.lane, info.size, info.ns, info.req⟩, (encode i).2, ?_⟩
  cases i <;> cases h <;> rfl

theorem exists_cpuInstr {r : CpuReg} (h : i.register = .inr r) :
    ∃ w a data, i = r.instr w a data := by
  let info := accessInfo i
  refine ⟨info.write, ⟨info.lane, info.size, info.ns, info.req, info.ifc.getD 0⟩, (encode i).2, ?_⟩
  cases i <;> cases h <;> rfl

end

/-! ## Decoding the words of the encoder. -/

theorem decode_distWord {r : DistReg} (h : r.wellFormed = true) (w : Bool) (a : DistArgs)
    (data : Word) : decode (distWord r w a) data = .ok (r.instr w a data) := by
  have hdec := Decodes.dist (data := data) a.req.isSome (BitVec.ofFin (w := 3) (a.req.getD 0))
    a.size a.ns w r.offset a.lane
  rw [distMap_offset h, decodeRequester_isSome] at hdec
  rw [distWord_eq_fieldWord (encodeRequester_eq a.req)]
  exact decode_of_decodes hdec

theorem decode_cpuWord {r : CpuReg} (h : r.wellFormed = true) (w : Bool) (a : CpuArgs)
    (data : Word) : decode (cpuWord r w a) data = .ok (r.instr w a data) := by
  have hdec := Decodes.cpu (data := data) (BitVec.ofFin a.ifc) a.req.isSome
    (BitVec.ofFin (w := 3) (a.req.getD 0)) a.size a.ns w r.offset a.lane
  rw [cpuMap_offset h, decodeRequester_isSome] at hdec
  rw [cpuWord_eq_fieldWord (encodeRequester_eq a.req)]
  exact decode_of_decodes hdec

/-- Settles O1: an instruction is a register with operands, and the map gives the register back. -/
theorem decodeOfEncode : Obligations.DecodeOfEncode := by
  intro i hwf
  cases hr : i.register with
  | inl r =>
    obtain ⟨w, a, data, rfl⟩ := exists_distInstr hr
    rw [wellFormed_distInstr] at hwf
    rw [encode_distInstr, decode_distWord hwf, distInstr_data]
  | inr r =>
    obtain ⟨w, a, data, rfl⟩ := exists_cpuInstr hr
    rw [wellFormed_cpuInstr] at hwf
    rw [encode_cpuInstr, decode_cpuWord hwf, cpuInstr_data]

/-- Settles O2: the register of an offset lies at that offset, and with REQV = 1 the requester holds
REQ. -/
theorem encodeOfDecode : Obligations.EncodeOfDecode := by
  intro aw data i h
  cases decodes_of_decode h with
  | dist valid req size ns write off lane =>
    obtain ⟨hwf, hoff⟩ := distMap_spec off
    obtain ⟨-, -, hvalid, -⟩ :=
      fieldWord_eq_iff.mp (Eq.refl (fieldWord 0#3 valid req size ns write false off lane))
    rw [encode_distInstr, write_distInstr, wellFormed_distInstr, hvalid]
    refine ⟨hwf, ?_, fun hw => if_pos hw⟩
    rintro rfl
    rw [distWord_eq_fieldWord (encodeRequester_decodeRequester req), hoff]
  | cpu ifc valid req size ns write off lane =>
    obtain ⟨hwf, hoff⟩ := cpuMap_spec off
    obtain ⟨-, -, hvalid, -⟩ :=
      fieldWord_eq_iff.mp (Eq.refl (fieldWord ifc valid req size ns write true (0#4 ++ off) lane))
    rw [encode_cpuInstr, write_cpuInstr, wellFormed_cpuInstr, hvalid]
    refine ⟨hwf, ?_, fun hw => if_pos hw⟩
    rintro rfl
    rw [cpuWord_eq_fieldWord (encodeRequester_decodeRequester req), hoff]

/-- Settles O3: the four words are the encodings of the four accesses. -/
theorem accessWordExamples : Obligations.AccessWordExamples :=
  ⟨decode_distWord (r := .icddcr) rfl true ⟨0#2, .word, false, some 0⟩,
    decode_cpuWord (r := .icciar) rfl false ⟨0#2, .word, false, some 0, 0⟩,
    decode_cpuWord (r := .icciar) rfl false ⟨0#2, .word, true, some 1, 1⟩,
    decode_distWord (r := .icdipr 10#8) rfl true ⟨0#2, .byte, false, some 0⟩⟩

end Sys2Proof.Machine
end


section
/-! SUPPORT. The control, security and reserved registers of the Distributor, and the writes that every
register ignores: the statements about them, settled. -/

namespace Sys2Proof.Machine

/-! ## Reserved offsets and read-only registers. -/

/-- Settles O10: every reserved offset is a read of 0 and a write without effect. -/
theorem reservedAddresses : Obligations.ReservedAddresses :=
  ⟨fun _ _ h => ⟨fun _ => h.read, fun _ => h.read, h.read, h.read, fun _ => h.read, fun _ => h.read⟩,
    fun _ _ _ h hi => ⟨fun _ => h.write hi, fun _ => h.write hi, h.write hi, h.write hi,
      fun _ => h.write hi, fun _ => h.write hi⟩,
    fun _ _ _ h => ⟨fun _ => h.read, fun _ => h.read, fun _ => h.read, fun _ => h.write,
      fun _ => h.write, fun _ => h.write⟩⟩

/-- Settles O11: the effect of each of these writes is the state it starts from. -/
theorem readOnlyWrites : Obligations.ReadOnlyWrites :=
  ⟨fun _ _ _ h hi => ⟨h.write hi, h.write hi, h.write hi, h.write hi, h.write hi, h.write hi,
      h.write hi, h.write hi, h.write hi, h.write hi, h.write hi, h.write hi, h.write hi, h.write hi,
      fun _ => h.write hi⟩,
    fun _ _ _ h => ⟨h.write, h.write, h.write, h.write⟩⟩

/-! ## ICDDCR. -/

theorem setWidth_ofBool (b : Bool) :
    (BitVec.ofBool b).setWidth 32 = if b = true then 1#32 else 0#32 := by
  cases b <;> rfl

/-- The Enable bit of the copy that an access reaches, in bit [0] (R161). -/
theorem icddcrValue_eq (s : State) (ns : Bool) :
    icddcrValue s ns =
      if (s.cfg.secext = true ∧ ns = true ∧ s.gic.dcrNS = true) ∨
        (¬ (s.cfg.secext = true ∧ ns = true) ∧ s.gic.dcrS = true) then 1#32 else 0#32 := by
  unfold icddcrValue
  by_cases hns : s.cfg.secext = true ∧ ns = true
  · simp [hns, setWidth_ofBool]
  · rw [if_neg (by rwa [Bool.and_eq_true]), setWidth_ofBool]
    simp only [← and_assoc, hns, false_and, false_or, not_false_eq_true, true_and]

/-- Settles O14: the value read is that of the copy the access reaches. -/
theorem icddcrRead : Obligations.IcddcrRead := by
  intro s a h
  rw [← icddcrValue_eq]
  exact h.read

/-- The Enable bit that a write of ICDDCR stores, and that alone (R162). -/
theorem setEnableBit_eq (ns : Bool) (data : Word) (s : State) :
    setEnableBit ns data s = { s with gic := { s.gic with
      dcrS := if (s.cfg.secext = true ∧ ns = true) ∨ lockActive s = true then s.gic.dcrS
        else data.getLsbD 0,
      dcrNS := if s.cfg.secext = true ∧ ns = true then data.getLsbD 0 else s.gic.dcrNS } } := by
  unfold setEnableBit
  by_cases hns : s.cfg.secext = true ∧ ns = true
  · simp [hns, State.setDcrNS]
  · rw [if_neg (by rwa [Bool.and_eq_true]), if_neg hns]
    by_cases hl : lockActive s = true
    · simp [hl]
    · simp [hl, hns, State.setDcrS]

theorem lineOf_spi {s : State} {n : Nat} (h : 32 ≤ n) (c d : Cpu) : lineOf s c n = lineOf s d n := by
  unfold lineOf
  rw [slot_spi_eq h c d]

/-- The condition of R162 at the slot of interrupt (c,n) is about (c,n). -/
theorem risesAtEnable_slot {s t : State} {c : Cpu} {n : Nat} :
    risesAtEnable s t (slot c n) = true ↔
      16 ≤ n ∧ implemented t.cfg c n = true ∧ edgeOf t c n = true ∧ lineOf t c n = true ∧
        fwdEn s c n = false ∧ fwdEn t c n = true := by
  unfold risesAtEnable
  rw [slotId_slot, slotCpu_slot]
  by_cases hn : n < 32
  · simp [hn, and_assoc]
  · rw [if_neg hn]
    have hspi : 32 ≤ n := by omega
    rw [implemented_spi t.cfg 0 c hspi, edgeOf_spi hspi 0 c, lineOf_spi hspi 0 c,
      fwdEn_spi (s := s) hspi 0 c, fwdEn_spi (s := t) hspi 0 c]
    simp [and_assoc]

/-- A write of ICDDCR stores the Enable bit, and with EDGE_HIGH_AT_ENABLE latches lines (R162). -/
theorem writeIcddcr_eq (ns : Bool) (data : Word) (s : State) :
    writeIcddcr ns data s = (setEnableBit ns data s).setLatch
      (if s.cfg.edgeHighAtEnable = .edge then
        s.gic.latch ||| bitsOf 1244 (risesAtEnable s (setEnableBit ns data s))
      else s.gic.latch) := by
  have hlatch : (setEnableBit ns data s).gic.latch = s.gic.latch := by rw [setEnableBit_eq]
  unfold writeIcddcr
  simp only [hlatch]
  split
  · rfl
  · rw [← hlatch]; rfl

/-- Settles O15: the Enable bit stored is `setEnableBit`'s, and the latches set are those of the slots
that rise at the enable. -/
theorem icddcrWrite : Obligations.IcddcrWrite := by
  intro s a data h hi
  refine ⟨(writeIcddcr a.ns data s).gic.latch, writeIcddcr a.ns data s, h.write hi, ?_,
    fun hp => ?_, fun hp c n hn => ?_⟩
  · rw [writeIcddcr_eq, setEnableBit_eq]
    rfl
  · rw [writeIcddcr_eq, hp]
    rfl
  · rw [writeIcddcr_eq, if_pos hp, State.setLatch_gic_latch, BitVec.getLsbD_or, getLsbD_bitsOf,
      decide_eq_true (slot_lt c hn), Bool.true_and, Bool.or_eq_true, risesAtEnable_slot,
      setEnableBit_eq]
    exact Iff.rfl

/-! ## ICDISR. -/

/-- Every implemented interrupt is Visible to a Secure access (R104). -/
theorem visible_secure (s : State) (c : Cpu) (n : Nat) :
    visible s c n false = implemented s.cfg c n := by
  simp [visible]

/-- Settles O16: each bit is the field of the bank that the requester reaches. -/
theorem icdisrRead : Obligations.IcdisrRead := by
  intro s a m h
  refine ⟨icdisrValue s (sourceId s.cfg a.req) a.ns m.toNat, h.read, fun f hf => ?_⟩
  unfold icdisrValue
  by_cases hx : s.cfg.secext = true ∧ a.ns = false
  · obtain ⟨hsec, hns⟩ := hx
    rw [if_neg (by simp [hsec, hns]), getLsbD_bitmapRead, decide_eq_true hf, Bool.true_and,
      readField_eq_true fun hn => nsbOf_spi hn]
    simp only [visible_secure, hsec, hns, true_and]
  · rw [if_pos (by simpa [imp_iff_not_or] using hx)]
    simp only [← and_assoc, hx, false_and, BitVec.getLsbD_zero, Bool.false_eq_true]

/-- The fields that a Secure write of ICDISRm reaches (R168): those of the implemented, programmable and
unlocked interrupts of the bank. -/
def SecurityField (s : State) (req : Option Cpu) (m : Nat) (c : Cpu) (n : Nat) : Prop :=
  n / 32 = m ∧ Reaches s req c n ∧ implemented s.cfg c n = true ∧ alwaysSecure s.cfg c n = false ∧
    alwaysNs s.cfg c n = false ∧ locked s n = false

theorem securityProgrammable_spi {s : State} {n : Nat} (h : 32 ≤ n) (c d : Cpu) :
    securityProgrammable s c n = securityProgrammable s d n := by
  unfold securityProgrammable alwaysSecure alwaysNs
  rw [slot_spi_eq h c d]

/-- An SPI is busy on every interface where it is active on one. -/
theorem notDrained_spi {s : State} {n : Nat} (h : 32 ≤ n) (c d : Cpu) :
    notDrained s c n = notDrained s d n := by
  have hact : ∀ e, (act s e n || actAny s n) = actAny s n := fun e => by
    rw [Bool.or_eq_right_iff_imp]
    exact act_actAny
  simp only [notDrained, h, decide_true, Bool.true_and, Bool.or_assoc, hact, pend_spi h c d]

theorem notDrained_iff {s : State} {c : Cpu} {n : Nat} :
    notDrained s c n = true ↔
      pend s c n = true ∨ act s c n = true ∨ (32 ≤ n ∧ actAny s n = true) := by
  simp [notDrained, or_assoc]

theorem SecurityField.lt {s : State} {req : Option Cpu} {m : Nat} {c : Cpu} {n : Nat}
    (h : SecurityField s req m c n) : n < 1020 := by
  obtain ⟨-, -, himpl, -⟩ := h
  exact implemented_lt himpl

/-- The fields of R168 are the Writable fields (R105) whose security is not fixed. -/
theorem securityField_iff {s : State} {req : Option Cpu} {m : Nat} {c : Cpu} {n : Nat} :
    SecurityField s req m c n ↔ n / 32 = m ∧ Reaches s req c n ∧ writable s c n false = true ∧
      securityProgrammable s c n = true := by
  simp only [SecurityField, writable, visible_secure, securityProgrammable, Bool.and_eq_true,
    Bool.not_eq_true']
  tauto

/-- The raise of R168: some field that the write reaches would change the security of a busy interrupt. -/
theorem any_securityConflict {s : State} {req : Option Cpu} {m : Nat} {data : Word} :
    (List.range 32).any (securityConflict s (sourceId s.cfg req) m data) = true ↔
      ∃ c n, SecurityField s req m c n ∧ nsbOf s c n ≠ data.getLsbD (n % 32) ∧
        notDrained s c n = true := by
  have hfield : ∀ f, securityConflict s (sourceId s.cfg req) m data f = true ↔
      ∃ c, Reaches s req c (32 * m + f) ∧ writable s c (32 * m + f) false = true ∧
        (securityProgrammable s c (32 * m + f) = true ∧
          nsbOf s c (32 * m + f) ≠ data.getLsbD f) ∧ notDrained s c (32 * m + f) = true := fun f => by
    unfold securityConflict
    rw [writesField_eq_true fun hn c d => by
      rw [securityProgrammable_spi hn c d, nsbOf_spi hn c d, notDrained_spi hn c d]]
    simp only [Bool.and_eq_true, decide_eq_true_eq]
  simp only [List.any_eq_true, List.mem_range, hfield, securityField_iff]
  constructor
  · rintro ⟨f, hf, c, hr, hw, ⟨hp, hne⟩, hb⟩
    have hmod : (32 * m + f) % 32 = f := by omega
    exact ⟨c, 32 * m + f, ⟨by omega, hr, hw, hp⟩, by rwa [hmod], hb⟩
  · rintro ⟨c, n, ⟨rfl, hr, hw, hp⟩, hne, hb⟩
    have hdiv : 32 * (n / 32) + n % 32 = n := by omega
    refine ⟨n % 32, by omega, c, ?_⟩
    rw [hdiv]
    exact ⟨hr, hw, ⟨hp, hne⟩, hb⟩

/-- A Secure write of ICDISRm acts on the fields it reaches whose bit is written 1. -/
theorem securityTargets_slot {s : State} {req : Option Cpu} {m n : Nat} {c : Cpu} {data : Word}
    (hn : n < 1020) :
    (bitmapTargets s (sourceId s.cfg req) false m data (securityProgrammable s)).getLsbD (slot c n) =
        true ↔ SecurityField s req m c n ∧ data.getLsbD (n % 32) = true := by
  rw [bitmapTargets_slot hn fun h => securityProgrammable_spi h, securityField_iff]
  tauto

/-- A bit of the mask takes the value written. -/
theorem getLsbD_masked_of_set {w k : Nat} {x mask y : BitVec w} (h : mask.getLsbD k = true) :
    ((x &&& ~~~ mask) ||| y).getLsbD k = y.getLsbD k := by
  simp [h]

/-- Settles O17: the write is ignored, finds a busy interrupt among the fields it reaches, or stores the
written bits in them. -/
theorem icdisrWrite : Obligations.IcdisrWrite := by
  intro s a m data h hi reached busy
  have hexec : exec (.wrIcdisr m a data) s =
      .next (writeIcdisr (sourceId s.cfg a.req) a.ns m.toNat data s) := h.write hi
  rw [hexec]
  unfold writeIcdisr
  refine ⟨fun hign => ?_, fun hsec hns hbusy => ?_, fun hsec hns hfree => ?_⟩
  · rw [if_pos (by simpa using hign)]
  · obtain ⟨c, n, -, hr, hne, hb⟩ := hbusy
    rw [if_neg (by simp [hsec, hns]),
      if_pos (any_securityConflict.mpr ⟨c, n, hr, hne, notDrained_iff.mpr hb⟩)]
    exact ⟨_, rfl, raise_unpred _ _⟩
  · have hno : ¬ (List.range 32).any
        (securityConflict s (sourceId s.cfg a.req) m.toNat data) = true := fun hc => by
      obtain ⟨c, n, hr, hne, hb⟩ := any_securityConflict.mp hc
      exact hfree c n hr.lt hr hne (notDrained_iff.mp hb)
    rw [if_neg (by simp [hsec, hns]), if_neg hno]
    refine ⟨_, rfl, fun c n hn => ⟨fun hr => ?_, fun hr => ?_⟩⟩
    · have hmask := (securityTargets_slot (data := BitVec.allOnes 32) hn).mpr
        ⟨hr, by rw [BitVec.getLsbD_allOnes]; exact decide_eq_true (Nat.mod_lt n (by decide))⟩
      rw [getLsbD_masked_of_set hmask, Bool.eq_iff_iff, securityTargets_slot hn]
      exact and_iff_right hr
    · have hunset : ∀ d, (bitmapTargets s (sourceId s.cfg a.req) false m.toNat d
          (securityProgrammable s)).getLsbD (slot c n) = false := fun d =>
        Bool.eq_false_iff.mpr fun ht => hr ((securityTargets_slot hn).mp ht).1
      rw [getLsbD_or_of_unset (hunset data), getLsbD_and_not_of_unset (hunset _)]

end Sys2Proof.Machine
end


section
/-! SUPPORT. The enable, pending and active registers of the Distributor (R190 to R204): the statements
about them, settled. -/

namespace Sys2Proof.Machine

/-! ## Reads: a bit for each Visible interrupt. -/

section
variable {s : State} {req : Option Cpu} {ns : Bool} {m : Nat} {c : Cpu}

/-- A read of a register with one bit for each interrupt (R110), for a variable of which an SPI has one
copy. -/
theorem bitmapRead_eq_true {f : Nat} {v : Cpu → Nat → Bool} (hf : f < 32)
    (hv : ∀ {n}, 32 ≤ n → ∀ c d, v c n = v d n) :
    (bitmapRead s (sourceId s.cfg req) ns m v).getLsbD f = true ↔
      ∃ c, Reaches s req c (32 * m + f) ∧ visible s c (32 * m + f) ns = true ∧
        v c (32 * m + f) = true := by
  rw [getLsbD_bitmapRead, decide_eq_true hf, Bool.true_and, readField_eq_true hv]

theorem actAny_eq_true {n : Nat} : actAny s n = true ↔ ∃ d, act s d n = true := by
  simp [actAny]

theorem activeBit_spi {n : Nat} (h : 32 ≤ n) (c d : Cpu) : activeBit s c n = activeBit s d n := by
  have hspi : ¬ n < 32 := by omega
  simp only [activeBit, hspi, if_false]

/-- An Active bit is about all interfaces for an SPI, about the one of the bank otherwise (R199). -/
theorem activeBit_eq_true {n : Nat} :
    activeBit s c n = true ↔ ∃ d, (n < 32 → d = c) ∧ act s d n = true := by
  unfold activeBit
  by_cases hn : n < 32
  · simp [hn]
  · simp [hn, actAny_eq_true]

end

/-- Settles O18: the four registers are bitmap reads of the enables and of the pending status. -/
theorem bitmapReads : Obligations.BitmapReads := by
  intro s a m h
  exact ⟨⟨_, h.read, fun f hf => bitmapRead_eq_true hf enOf_spi⟩,
    ⟨_, h.read, fun f hf => bitmapRead_eq_true hf enOf_spi⟩,
    ⟨_, h.read, fun f hf => bitmapRead_eq_true hf pend_spi⟩,
    ⟨_, h.read, fun f hf => bitmapRead_eq_true hf pend_spi⟩⟩

/-- Settles O19: ICDABR is the bitmap read of the Active bits, which stand for entries of the lists. -/
theorem activeBitRead : Obligations.ActiveBitRead := by
  intro s a m h
  refine ⟨_, h.read, fun f hf => ?_⟩
  rw [bitmapRead_eq_true hf activeBit_spi]
  simp only [activeBit_eq_true, act_eq_true]

/-! ## Writes: the bits written 1 are set, or cleared. -/

section
variable {w k : Nat} {x y : BitVec w}

theorem getLsbD_or_eq_true :
    (x ||| y).getLsbD k = true ↔ y.getLsbD k = true ∨ x.getLsbD k = true := by
  rw [BitVec.getLsbD_or, Bool.or_eq_true, or_comm]

theorem getLsbD_and_not_eq_true :
    (x &&& ~~~ y).getLsbD k = true ↔ ¬ y.getLsbD k = true ∧ x.getLsbD k = true := by
  by_cases hy : y.getLsbD k = true
  · simp [hy]
  · rw [getLsbD_and_not_of_unset (Bool.eq_false_iff.mpr hy)]
    exact (and_iff_right hy).symm

end

/-- The enables that a write of ICDISERm or ICDICERm acts on (R192, R194): those written 1 of the
Writable interrupts of the bank that are not permanently enabled. -/
def EnableField (s : State) (req : Option Cpu) (ns : Bool) (m : Nat) (data : Word) (c : Cpu)
    (n : Nat) : Prop :=
  n / 32 = m ∧ Reaches s req c n ∧ data.getLsbD (n % 32) = true ∧ writable s c n ns = true ∧
    permanentlyEnabled s.cfg c n = false

/-- The latches that a write of ICDISPRm or ICDICPRm acts on (R196, R198): those written 1 of the
Writable peripheral interrupts of the bank. -/
def PendingField (s : State) (req : Option Cpu) (ns : Bool) (m : Nat) (data : Word) (c : Cpu)
    (n : Nat) : Prop :=
  n / 32 = m ∧ Reaches s req c n ∧ data.getLsbD (n % 32) = true ∧ writable s c n ns = true ∧ 16 ≤ n

section
variable {s : State} {req : Option Cpu} {ns : Bool} {m n : Nat} {data : Word} {c : Cpu}

theorem enableProgrammable_spi (h : 32 ≤ n) (c d : Cpu) :
    enableProgrammable s c n = enableProgrammable s d n := by
  unfold enableProgrammable
  rw [permanentlyEnabled_spi h c d]

theorem enableTargets_slot (hn : n < 1020) :
    (bitmapTargets s (sourceId s.cfg req) ns m data (enableProgrammable s)).getLsbD (slot c n) =
        true ↔ EnableField s req ns m data c n := by
  rw [bitmapTargets_slot hn enableProgrammable_spi, enableProgrammable, Bool.not_eq_true']
  rfl

theorem pendingTargets_slot (hn : n < 1020) :
    (bitmapTargets s (sourceId s.cfg req) ns m data pendingProgrammable).getLsbD (slot c n) = true ↔
      PendingField s req ns m data c n := by
  rw [bitmapTargets_slot hn fun _ _ _ => rfl, pendingProgrammable, decide_eq_true_eq]
  rfl

theorem writeIcdiser_en_slot (hn : n < 1020) :
    (writeIcdiser (sourceId s.cfg req) ns m data s).gic.en.getLsbD (slot c n) = true ↔
      EnableField s req ns m data c n ∨ s.gic.en.getLsbD (slot c n) = true := by
  rw [writeIcdiser, State.setEn_gic_en, getLsbD_or_eq_true, enableTargets_slot hn]

theorem writeIcdicer_en_slot (hn : n < 1020) :
    (writeIcdicer (sourceId s.cfg req) ns m data s).gic.en.getLsbD (slot c n) = true ↔
      ¬ EnableField s req ns m data c n ∧ s.gic.en.getLsbD (slot c n) = true := by
  rw [writeIcdicer, State.setEn_gic_en, getLsbD_and_not_eq_true, enableTargets_slot hn]

theorem latchOf_writeIcdispr (hn : n < 1020) :
    latchOf (writeIcdispr (sourceId s.cfg req) ns m data s) c n = true ↔
      PendingField s req ns m data c n ∨ latchOf s c n = true := by
  rw [latchOf, writeIcdispr, State.setLatch_gic_latch, getLsbD_or_eq_true, pendingTargets_slot hn]
  rfl

theorem latchOf_writeIcdicpr (hn : n < 1020) :
    latchOf (writeIcdicpr (sourceId s.cfg req) ns m data s) c n = true ↔
      ¬ PendingField s req ns m data c n ∧ latchOf s c n = true := by
  rw [latchOf, writeIcdicpr, State.setLatch_gic_latch, getLsbD_and_not_eq_true,
    pendingTargets_slot hn]
  rfl

end

/-- Settles O20: the enables that change are those of the fields of R192 and R194. -/
theorem enableWrites : Obligations.EnableWrites := by
  intro s a m data h hi chosen
  exact ⟨⟨_, h.write hi, fun c n hn => writeIcdiser_en_slot hn⟩,
    ⟨_, h.write hi, fun c n hn => writeIcdicer_en_slot hn⟩⟩

/-- Settles O21: the latches that change are those of the fields of R196 and R198. -/
theorem pendingWrites : Obligations.PendingWrites := by
  intro s a m data h hi chosen
  exact ⟨⟨_, h.write hi, fun c n hn => latchOf_writeIcdispr hn⟩,
    ⟨_, h.write hi, fun c n hn => latchOf_writeIcdicpr hn⟩⟩

/-! ## Discovery: all ones written, and read back (R204). -/

section
variable {s : State} {req : Option Cpu} {ns : Bool} {m f : Nat} {c : Cpu}

theorem enOf_eq_true {n : Nat} : enOf s c n = true ↔
    permanentlyEnabled s.cfg c n = true ∨ s.gic.en.getLsbD (slot c n) = true := by
  rw [enOf, Bool.or_eq_true]

theorem visible_lt {n : Nat} (h : visible s c n ns = true) : n < 1020 := by
  rw [visible, Bool.and_eq_true] at h
  obtain ⟨himpl, -⟩ := h
  exact implemented_lt himpl

/-- Of the Visible interrupts of its word, a write of all ones leaves out those that are locked or
permanently enabled. -/
theorem enableField_allOnes (hf : f < 32) (hr : Reaches s req c (32 * m + f))
    (hv : visible s c (32 * m + f) ns = true) :
    EnableField s req ns m (BitVec.allOnes 32) c (32 * m + f) ↔
      locked s (32 * m + f) = false ∧ permanentlyEnabled s.cfg c (32 * m + f) = false := by
  have hdiv : (32 * m + f) / 32 = m := by omega
  have hmod : (32 * m + f) % 32 < 32 := Nat.mod_lt _ (by decide)
  simp only [EnableField, writable, hdiv, hmod, hr, hv, BitVec.getLsbD_allOnes, decide_true,
    Bool.true_and, Bool.not_eq_true', true_and]

/-- After all ones to ICDISERm an interrupt of the word is enabled unless it is locked and was not. -/
theorem enOf_writeIcdiser_allOnes (hf : f < 32) (hr : Reaches s req c (32 * m + f))
    (hv : visible s c (32 * m + f) ns = true) :
    enOf (writeIcdiser (sourceId s.cfg req) ns m (BitVec.allOnes 32) s) c (32 * m + f) = true ↔
      locked s (32 * m + f) = false ∨ enOf s c (32 * m + f) = true := by
  rw [enOf_eq_true, writeIcdiser_en_slot (visible_lt hv), enableField_allOnes hf hr hv, enOf_eq_true,
    ← Bool.not_eq_true (permanentlyEnabled s.cfg c _)]
  simp only [writeIcdiser, State.setEn_cfg]
  tauto

/-- After all ones to ICDICERm an interrupt of the word is enabled only if it is permanently, or if it
is locked and was. -/
theorem enOf_writeIcdicer_allOnes (hf : f < 32) (hr : Reaches s req c (32 * m + f))
    (hv : visible s c (32 * m + f) ns = true) :
    enOf (writeIcdicer (sourceId s.cfg req) ns m (BitVec.allOnes 32) s) c (32 * m + f) = true ↔
      permanentlyEnabled s.cfg c (32 * m + f) = true ∨
        (locked s (32 * m + f) = true ∧ enOf s c (32 * m + f) = true) := by
  rw [enOf_eq_true, writeIcdicer_en_slot (visible_lt hv), enableField_allOnes hf hr hv, enOf_eq_true,
    ← Bool.not_eq_true (permanentlyEnabled s.cfg c _), ← Bool.not_eq_true (locked s _)]
  simp only [writeIcdicer, State.setEn_cfg]
  tauto

end

/-- A write of an enable register changes nothing that decides whether an access is carried out. -/
theorem DistWordReady.setEn {s : State} {a : DistArgs} (h : DistWordReady s a) (v : Bits) :
    DistWordReady (s.setEn v) a := h

/-- A read of the enables after one of them is written: which interrupts are reached and Visible is as
before the write. -/
theorem bitmapRead_setEn_eq_true {s : State} {req : Option Cpu} {ns : Bool} {m f : Nat} {v : Bits}
    (hf : f < 32) :
    (bitmapRead (s.setEn v) (sourceId s.cfg req) ns m (enOf (s.setEn v))).getLsbD f = true ↔
      ∃ c, Reaches s req c (32 * m + f) ∧ visible s c (32 * m + f) ns = true ∧
        enOf (s.setEn v) c (32 * m + f) = true :=
  bitmapRead_eq_true (s := s.setEn v) hf enOf_spi

/-- Settles O22: the value read back shows the enables after the write. -/
theorem discoveryByEnable : Obligations.DiscoveryByEnable := by
  intro s a m h hi
  refine ⟨⟨_, _, h.write hi, (h.setEn _).read, fun f hf => ?_⟩,
    ⟨_, _, h.write hi, (h.setEn _).read, fun f hf => ?_⟩⟩
  · refine (bitmapRead_setEn_eq_true hf).trans (exists_congr fun c => ?_)
    exact and_congr_right fun hr => and_congr_right fun hv => enOf_writeIcdiser_allOnes hf hr hv
  · refine (bitmapRead_setEn_eq_true hf).trans (exists_congr fun c => ?_)
    exact and_congr_right fun hr => and_congr_right fun hv => enOf_writeIcdicer_allOnes hf hr hv

end Sys2Proof.Machine
end


section
/-! SUPPORT. The priority, processor targets and configuration registers of the Distributor (R240 to
R246): the statements about them, settled. -/

namespace Sys2Proof.Machine

/-! ## Accesses to byte fields that are ready. -/

section
variable {s e : State} {a : DistArgs}

/-- The checks of R83 to R86 let the access happen. -/
theorem DistBytesReady.supported (h : DistBytesReady s a) :
    accessError s.cfg true a.lane a.size = none := by
  obtain ⟨-, -, ⟨hsize, hlane⟩ | hsize | ⟨hsize, hlane, hpairs⟩⟩ := h
  · rw [hsize, hlane, accessError_word]
  · rw [hsize, accessError_byte]
  · simp only [accessError, hsize, hlane, hpairs, Bool.false_eq_true, if_false, decide_true,
      Bool.and_self, if_true]

/-- The fields that the access covers are those of one register (R125). -/
theorem DistBytesReady.covered (h : DistBytesReady s a) {j : Nat} (hj : j < sizeBytes a.size) :
    a.lane.toNat + j < 4 := by
  have hlt := a.lane.isLt
  obtain ⟨-, -, ⟨hsize, hlane⟩ | hsize | ⟨hsize, hlane, -⟩⟩ := h <;>
    simp only [hsize, sizeBytes] at hj
  · rw [hlane, BitVec.toNat_zero]
    omega
  · omega
  · rw [BitVec.getLsbD, Nat.testBit_zero, decide_eq_false_iff_not] at hlane
    omega

theorem DistBytesReady.effect (h : DistBytesReady s a) :
    onDist a s (sized true a.lane a.size s e) = .next e := by
  have hsupported := h.supported
  obtain ⟨hu, hr, -⟩ := h
  rw [onDist_eq hr hu, sized_eq hsupported]

theorem DistBytesReady.write {i : Instr} (h : DistBytesReady s a) (hi : Immediate s) :
    writeDist a i s (sized true a.lane a.size s e) = .next e := by
  have hsupported := h.supported
  obtain ⟨hu, hr, -⟩ := h
  rw [writeDist_eq hr hu hi.notDelayed, sized_eq hsupported]

end

/-! ## The bytes that an access covers. -/

section
variable {lane : BitVec 2} {size : AccessSize} {data : Word}

theorem sizeBytes_le (size : AccessSize) : sizeBytes size ≤ 4 := by
  cases size <;> decide

/-- The bytes of a data word are the four it is put together from. -/
theorem dataByte_append (b₀ b₁ b₂ b₃ : Byte) :
    dataByte (b₃ ++ b₂ ++ b₁ ++ b₀) 0 = b₀ ∧ dataByte (b₃ ++ b₂ ++ b₁ ++ b₀) 1 = b₁ ∧
      dataByte (b₃ ++ b₂ ++ b₁ ++ b₀) 2 = b₂ ∧ dataByte (b₃ ++ b₂ ++ b₁ ++ b₀) 3 = b₃ := by
  have h : (b₃ ++ b₂ ++ b₁ ++ b₀).extractLsb' 0 (8 + 8 + 8 + 8) = b₃ ++ b₂ ++ b₁ ++ b₀ :=
    BitVec.extractLsb'_eq_self
  obtain ⟨⟨⟨h₃, h₂⟩, h₁⟩, h₀⟩ : ((_ ∧ _) ∧ _) ∧ _ := by
    simpa only [extractLsb'_eq_append_iff] using h
  exact ⟨h₀, h₁, h₂, h₃⟩

theorem dataByte_of_ge (v : Word) {j : Nat} (hj : 4 ≤ j) : dataByte v j = 0#8 := by
  ext i hi
  have hge : 32 ≤ 8 * j + i := by omega
  simp [dataByte, hge]

/-- Byte j of a read is the field it covers, and 0 beyond the bytes of the access (log 24). -/
theorem dataByte_readBytes (field : Nat → Byte) (j : Nat) :
    dataByte (readBytes lane size field) j =
      if j < sizeBytes size then field (lane.toNat + j) else 0#8 := by
  obtain ⟨h₀, h₁, h₂, h₃⟩ := dataByte_append
    (if 0 < sizeBytes size then field (lane.toNat + 0) else 0#8)
    (if 1 < sizeBytes size then field (lane.toNat + 1) else 0#8)
    (if 2 < sizeBytes size then field (lane.toNat + 2) else 0#8)
    (if 3 < sizeBytes size then field (lane.toNat + 3) else 0#8)
  match j with
  | 0 => exact h₀
  | 1 => exact h₁
  | 2 => exact h₂
  | 3 => exact h₃
  | j + 4 =>
    have hle := sizeBytes_le size
    rw [dataByte_of_ge _ (by omega), if_neg (by omega)]

theorem dataByte_readBytes_of_lt {field : Nat → Byte} {j : Nat} (hj : j < sizeBytes size) :
    dataByte (readBytes lane size field) j = field (lane.toNat + j) := by
  rw [dataByte_readBytes, if_pos hj]

theorem dataByte_readBytes_of_ge {field : Nat → Byte} {j : Nat} (hj : sizeBytes size ≤ j) :
    dataByte (readBytes lane size field) j = 0#8 := by
  rw [dataByte_readBytes, if_neg (Nat.not_lt.mpr hj)]

/-- A read of fields that are all 0 returns 0. -/
theorem readBytes_eq_zero {field : Nat → Byte} (h : ∀ f, field f = 0#8) :
    readBytes lane size field = 0#32 := by
  simp only [readBytes, h, ite_self]
  rfl

/-- A write of fields that are stored nowhere leaves every byte. -/
theorem writeBytes_of_none {target : Nat → Option Nat} {value : Byte → Byte} {v : Bytes}
    (h : ∀ j, j < sizeBytes size → target (lane.toNat + j) = none) :
    writeBytes lane size data target value v = v := by
  have hl : ∀ j ∈ List.range (sizeBytes size), target (lane.toNat + j) = none :=
    fun j hj => h j (List.mem_range.mp hj)
  unfold writeBytes
  generalize List.range (sizeBytes size) = l at hl ⊢
  induction l with
  | nil => rfl
  | cons j l ih =>
    rw [List.foldl_cons, hl j List.mem_cons_self]
    exact ih fun i hi => hl i (List.mem_cons_of_mem _ hi)

/-- A byte write stores at k what the one written byte gives whose field is stored there. -/
theorem getByte_writeBytes_of_eq {target : Nat → Option Nat} {value : Byte → Byte} {v : Bytes}
    {k j : Nat} (hk : k < 1244) (hj : j < sizeBytes size) (ht : target (lane.toNat + j) = some k)
    (hone : ∀ i, target (lane.toNat + i) = some k → i = j) :
    getByte (writeBytes lane size data target value v) k = value (dataByte data j) := by
  have hleft : getByte v k = value (dataByte data j) ∨ j ∈ List.range (sizeBytes size) :=
    .inr (List.mem_range.mpr hj)
  unfold writeBytes
  generalize List.range (sizeBytes size) = l at hleft ⊢
  induction l generalizing v with
  | nil => exact hleft.resolve_right List.not_mem_nil
  | cons i l ih =>
    rw [List.foldl_cons]
    refine ih ?_
    by_cases hi : target (lane.toNat + i) = some k
    · obtain rfl := hone i hi
      simp [hi, getByte_putByte, hk]
    · have hne : j ≠ i := fun h => hi (h ▸ ht)
      refine hleft.imp (fun hv => ?_) fun hmem => (List.mem_cons.mp hmem).resolve_left hne
      split
      · exact hv
      · next p hp =>
        rw [getByte_putByte, if_neg, hv]
        rintro ⟨rfl, -⟩
        exact hi hp

end

/-! ## The copy of an interrupt that a requester reaches. -/

section
variable {s : State} {req : Option Cpu} {ns : Bool} {c d : Cpu} {n : Nat}

/-- What is the same on all interfaces for an SPI is the same on two interfaces that see one copy of an
interrupt. -/
theorem eq_of_sameCopy {α : Sort*} {f : Cpu → α} (hf : 32 ≤ n → ∀ c d, f c = f d)
    (h : n < 32 → c = d) : f c = f d := by
  by_cases hn : n < 32
  · rw [h hn]
  · exact hf (by omega) c d

theorem reaches_spi (h : 32 ≤ n) (c : Cpu) : Reaches s req c n := fun hn => absurd hn (by omega)

theorem reaches_of_bank (h : bank (sourceId s.cfg req) n = some c) : Reaches s req c n := by
  intro hn
  rwa [bank_private _ hn] at h

theorem writable_lt (h : writable s c n ns = true) : n < 1020 := by
  rw [writable, Bool.and_eq_true] at h
  obtain ⟨hvisible, -⟩ := h
  exact visible_lt hvisible

/-- The bank of an interrupt that is reached on interface c is the same copy as that of c. -/
theorem Reaches.exists_bank (h : Reaches s req c n) :
    ∃ d, bank (sourceId s.cfg req) n = some d ∧ (n < 32 → d = c) := by
  by_cases hn : n < 32
  · exact ⟨c, (bank_private _ hn).trans (h hn), fun _ => rfl⟩
  · exact ⟨0, bank_spi _ (by omega), fun hp => absurd hp hn⟩

/-- The slot of an interrupt that is reached lies in the sixteen of its ICDICFR register. -/
theorem Reaches.exists_bank16 (h : Reaches s req c n) :
    ∃ d, bank (sourceId s.cfg req) (16 * (n / 16)) = some d ∧
      slot c n = slot d (16 * (n / 16)) + n % 16 ∧ (n < 32 → d = c) := by
  obtain ⟨d, hd, hdc⟩ := h.exists_bank
  have hmod : n % 16 < 16 := Nat.mod_lt n (by decide)
  refine ⟨d, ?_, ?_, hdc⟩
  · rw [← bank_instance16 _ _ _ hmod, Nat.div_add_mod, hd]
  · rw [← slot_instance16 d _ _ hmod, Nat.div_add_mod, slot_inj.mpr ⟨rfl, hdc⟩]

/-- With more than one processor the copy of a banked interrupt is the requester's own (R53, R100). -/
theorem reaches_banked (h1 : ncpu s.cfg ≠ 1) (hn : n < 32) :
    Reaches s req c n ↔ req = some c := by
  rw [Reaches, sourceId, if_neg h1]
  exact ⟨fun h => h hn, fun h _ => h⟩

section
variable {α : Type} {zero : α} {v : Cpu → α}

/-- A field that a requester reads is that of an interface it reaches, where it is Visible (R104). -/
theorem readField_of_reaches (hv : 32 ≤ n → ∀ c d, v c = v d) (h : Reaches s req c n) :
    readField s (sourceId s.cfg req) ns n zero v =
      if visible s c n ns = true then v c else zero := by
  obtain ⟨d, hd, hdc⟩ := h.exists_bank
  rw [readField, hd]
  exact eq_of_sameCopy (f := fun c => if visible s c n ns = true then v c else zero)
    (fun hn c e => by rw [visible_spi hn c e, hv hn c e]) hdc

/-- A field that is Visible on no interface the requester reaches reads as 0 (R104). -/
theorem readField_of_hidden (h : ∀ c, Reaches s req c n → visible s c n ns = false) :
    readField s (sourceId s.cfg req) ns n zero v = zero := by
  unfold readField
  split
  · rfl
  · next c hc => rw [if_neg (Bool.eq_false_iff.mp (h c (reaches_of_bank hc)))]

theorem readField_spi (h : 32 ≤ n) :
    readField s req ns n zero v = if visible s 0 n ns = true then v 0 else zero := by
  rw [readField, bank_spi _ h]

end

end

/-! ## ICDIPR. -/

/-- The priority fields that a write of ICDIPR acts on (R242): those of the Writable interrupts of the
bank without a fixed priority. -/
def PriorityField (s : State) (req : Option Cpu) (ns : Bool) (c : Cpu) (n : Nat) : Prop :=
  Reaches s req c n ∧ writable s c n ns = true ∧ fixedPriority s.cfg c n = none

section
variable {s : State} {req : Option Cpu} {ns : Bool} {c : Cpu} {n : Nat}

theorem PriorityField.lt (h : PriorityField s req ns c n) : n < 1020 := by
  obtain ⟨-, hw, -⟩ := h
  exact writable_lt hw

theorem priorityField_spi (h : 32 ≤ n) (c d : Cpu) :
    PriorityField s req ns c n = PriorityField s req ns d n := by
  unfold PriorityField
  rw [writable_spi h c d, fixedPriority_spi h c d]
  simp only [reaches_spi h]

/-- Where a write stores a priority field that the requester reaches. -/
theorem icdiprTarget_of_reaches (h : Reaches s req c n) :
    icdiprTarget s (sourceId s.cfg req) ns n =
      if writable s c n ns && decide (fixedPriority s.cfg c n = none) then some (slot c n)
      else none := by
  obtain ⟨d, hd, hdc⟩ := h.exists_bank
  rw [icdiprTarget, hd]
  exact eq_of_sameCopy (f := fun c => if writable s c n ns &&
      decide (fixedPriority s.cfg c n = none) then some (slot c n) else none)
    (fun hn c e => by rw [writable_spi hn c e, fixedPriority_spi hn c e, slot_spi_eq hn c e]) hdc

theorem reaches_of_icdiprTarget {k : Nat} (h : icdiprTarget s (sourceId s.cfg req) ns n = some k) :
    ∃ c, Reaches s req c n := by
  unfold icdiprTarget at h
  split at h
  · cases h
  · next c hc => exact ⟨c, reaches_of_bank hc⟩

/-- A write stores the field of interrupt k in the slot of (c,n) exactly if that is the priority of (c,n)
and the write acts on it. -/
theorem icdiprTarget_eq_slot {k : Nat} :
    icdiprTarget s (sourceId s.cfg req) ns k = some (slot c n) ↔
      k = n ∧ PriorityField s req ns c n := by
  constructor
  · intro h
    obtain ⟨d, hr⟩ := reaches_of_icdiprTarget h
    rw [icdiprTarget_of_reaches hr, Option.ite_none_right_eq_some, Bool.and_eq_true,
      decide_eq_true_eq, Option.some.injEq, slot_inj] at h
    obtain ⟨hfield, rfl, hdc⟩ := h
    have hcopy : PriorityField s req ns d k = PriorityField s req ns c k :=
      eq_of_sameCopy (f := fun c => PriorityField s req ns c k) priorityField_spi hdc
    exact ⟨rfl, hcopy ▸ ⟨hr, hfield⟩⟩
  · rintro ⟨rfl, hr, hw, hf⟩
    rw [icdiprTarget_of_reaches hr, if_pos (by simp [hw, hf])]

/-- The field of a Visible interrupt, in the view of the access (R241). -/
theorem icdiprField_of_visible (hr : Reaches s req c n) (hv : visible s c n ns = true) :
    icdiprField s (sourceId s.cfg req) ns n =
      if s.cfg.secext = true ∧ ns = true then (priOf s c n &&& pMask s.cfg) <<< 1
      else priOf s c n := by
  unfold icdiprField
  rw [readField_of_reaches (fun hn c d => by rw [priOf_spi hn c d]) hr, if_pos hv]
  simp only [Bool.and_eq_true, nsViewRead]

theorem icdiprStored_eq (v : Byte) :
    icdiprStored s ns v =
      (if s.cfg.secext = true ∧ ns = true then 0x80#8 ||| (v >>> 1) else v) &&& pMask s.cfg := by
  simp only [icdiprStored, Bool.and_eq_true]
  split <;> rfl

end

/-- Settles O23: byte j of the value is the field of interrupt 4n + offset + j, which the bank of the
requester gives. -/
theorem priorityRead : Obligations.PriorityRead := by
  intro s a m h
  refine ⟨_, h.effect, fun j hj => dataByte_readBytes_of_ge hj, fun j hj n hn => ?_⟩
  rw [dataByte_readBytes_of_lt hj, ← Nat.add_assoc, ← hn]
  exact ⟨fun c hr hv => icdiprField_of_visible hr hv, readField_of_hidden⟩

/-- Settles O24: byte j of the data is stored in the slot of the interrupt whose field it is. -/
theorem priorityWrite : Obligations.PriorityWrite := by
  intro s a m data h hi chosen
  refine ⟨_, h.write hi, ?_, fun c n _ hno => ?_⟩
  · rintro c n j ⟨hj, hn, hfield⟩
    rw [← icdiprStored_eq]
    refine getByte_writeBytes_of_eq (slot_lt c (PriorityField.lt hfield)) hj
      (icdiprTarget_eq_slot.mpr ⟨by omega, hfield⟩) fun i hi => ?_
    obtain ⟨hin, -⟩ := icdiprTarget_eq_slot.mp hi
    omega
  · refine getByte_writeBytes_of_ne _ _ _ _ _ _ _ fun j hj ht => ?_
    obtain ⟨hn, hfield⟩ := icdiprTarget_eq_slot.mp ht
    exact hno j ⟨hj, by omega, hfield⟩

/-! ## ICDIPTR. -/

section
variable {s : State} {req : Option Cpu} {ns : Bool} {n : Nat}

theorem icdiptrField_uniprocessor (h : ncpu s.cfg = 1) : icdiptrField s req ns n = 0#8 := if_pos h

/-- The field of a banked interrupt is the mask of the interface that reads it (R243). -/
theorem icdiptrField_banked (h : ncpu s.cfg ≠ 1) (hn : n < 32) :
    icdiptrField s req ns n = readField s req ns n 0#8 fun c => 1#8 <<< c.val := by
  simp only [icdiptrField, if_neg h, if_pos hn]

/-- The field of an SPI holds its targets (R243). -/
theorem icdiptrField_spi (h : ncpu s.cfg ≠ 1) (hn : 32 ≤ n) :
    icdiptrField s req ns n = if visible s 0 n ns = true then tgtOf s n else 0#8 := by
  have hbanked : ¬ n < 32 := by omega
  simp only [icdiptrField, if_neg h, if_neg hbanked, readField_spi hn]

theorem toNat_interfaceMask (c : Cpu) : (1#8 <<< c.val).toNat = 2 ^ c.val := by
  revert c
  decide

/-- The targets fields that a write of ICDIPTR acts on (R244): those of the Writable SPIs without fixed
targets, in a multiprocessor. -/
def TargetsField (s : State) (ns : Bool) (n : Nat) : Prop :=
  ncpu s.cfg ≠ 1 ∧ writable s 0 n ns = true ∧ spiTargetFixed s.cfg n = none

theorem TargetsField.lt (h : TargetsField s ns n) : n < 1020 := by
  obtain ⟨-, hw, -⟩ := h
  exact writable_lt hw

/-- A write stores the field of interrupt k as the targets of SPI n exactly if they are the same and the
write acts on them. -/
theorem icdiptrTarget_eq_spi {k : Nat} (hn : 32 ≤ n) :
    icdiptrTarget s ns k = some (n + 224) ↔ k = n ∧ TargetsField s ns n := by
  have hstored : icdiptrTarget s ns k = some (n + 224) ↔
      ncpu s.cfg ≠ 1 ∧ 32 ≤ k ∧ (writable s 0 k ns = true ∧ spiTargetFixed s.cfg k = none) ∧
        k = n := by
    simp only [icdiptrTarget, Option.ite_none_left_eq_some, Option.ite_none_right_eq_some,
      Bool.and_eq_true, decide_eq_true_eq, Option.some.injEq, Nat.add_right_cancel_iff, not_lt]
  rw [hstored]
  constructor
  · rintro ⟨hmulti, -, hwritable, rfl⟩
    exact ⟨rfl, hmulti, hwritable⟩
  · rintro ⟨rfl, hmulti, hwritable⟩
    exact ⟨hmulti, hn, hwritable, rfl⟩

theorem icdiptrTarget_banked (hn : n < 32) : icdiptrTarget s ns n = none := by
  simp only [icdiptrTarget, if_pos hn, ite_self]

end

/-- A write of ICDIPTR0 to ICDIPTR7 changes nothing (R244): it covers banked interrupts only. -/
theorem writeIcdiptr_banked {s : State} {a : DistArgs} (h : DistBytesReady s a) {m : Nat}
    (hm : m < 8) (data : Word) : writeIcdiptr a m data s = s := by
  have hnone : ∀ j, j < sizeBytes a.size →
      icdiptrTarget s a.ns (4 * m + (a.lane.toNat + j)) = none := fun j hj =>
    have hcovered := h.covered hj
    icdiptrTarget_banked (by omega)
  rw [writeIcdiptr, writeBytes_of_none hnone]
  rfl

/-- Settles O25: byte j of the value is the targets field of interrupt 4n + offset + j, which is banked
in the first eight registers and an SPI in the others. -/
theorem targetsRead : Obligations.TargetsRead := by
  constructor
  · intro s a m h
    refine ⟨_, h.effect, fun h1 => readBytes_eq_zero fun _ => icdiptrField_uniprocessor h1,
      fun j hj => dataByte_readBytes_of_ge hj, fun j hj n hn h1 => ?_⟩
    have hbanked : n < 32 := by
      have hcovered := h.covered hj
      have hm := m.isLt
      omega
    rw [dataByte_readBytes_of_lt hj, ← Nat.add_assoc, ← hn, icdiptrField_banked h1 hbanked]
    simp only [← reaches_banked h1 hbanked]
    refine ⟨fun c hr hv => ?_, readField_of_hidden⟩
    rw [readField_of_reaches (fun hspi => absurd hbanked (by omega)) hr, if_pos hv,
      toNat_interfaceMask]
  · intro s a m h hm
    refine ⟨_, h.effect, fun h1 => readBytes_eq_zero fun _ => icdiptrField_uniprocessor h1,
      fun j hj => dataByte_readBytes_of_ge hj, fun j hj n hn h1 => ?_⟩
    rw [dataByte_readBytes_of_lt hj, ← Nat.add_assoc, ← hn, icdiptrField_spi h1 (by omega)]

/-- Settles O26: no field of the first eight registers is stored; in the others byte j of the data is
stored as the targets of the SPI whose field it is. -/
theorem targetsWrite : Obligations.TargetsWrite := by
  constructor
  · intro s a m data h hi
    have hexec : exec (.wrIcdiptrPriv m a data) s = .next (writeIcdiptr a m.toNat data s) :=
      h.write hi
    rw [hexec, writeIcdiptr_banked h m.isLt]
  · intro s a m data h hi hm chosen
    refine ⟨_, h.write hi, ?_, fun n hspi _ hno => ?_⟩
    · rintro n j ⟨hj, hn, hfield⟩
      have hlt := TargetsField.lt hfield
      have hspi : 32 ≤ n := by omega
      refine getByte_writeBytes_of_eq (by omega) hj
        ((icdiptrTarget_eq_spi hspi).mpr ⟨by omega, hfield⟩) fun i hi => ?_
      obtain ⟨hin, -⟩ := (icdiptrTarget_eq_spi hspi).mp hi
      omega
    · refine getByte_writeBytes_of_ne _ _ _ _ _ _ _ fun j hj ht => ?_
      obtain ⟨hn, hfield⟩ := (icdiptrTarget_eq_spi hspi).mp ht
      exact hno j ⟨hj, by omega, hfield⟩

/-! ## ICDICFR. -/

/-- The Int_config fields that a write of ICDICFRm acts on (R246): those of the Writable SPIs and
programmable PPIs of the bank. -/
def TriggerField (s : State) (req : Option Cpu) (ns : Bool) (m : Nat) (c : Cpu) (n : Nat) : Prop :=
  n / 16 = m ∧ Reaches s req c n ∧ writable s c n ns = true ∧ 16 ≤ n ∧
    (n < 32 → s.cfg.ppiProgrammable.getLsbD (slot c n) = true)

section
variable {s : State} {req : Option Cpu} {ns : Bool} {m n : Nat} {c : Cpu} {data : Word}

theorem intConfig_eq_true : intConfig s c n = true ↔ n < 16 ∨ edgeOf s c n = true := by
  unfold intConfig
  by_cases hn : n < 16
  · simp [hn]
  · simp [hn]

theorem intConfig_spi (h : 32 ≤ n) (c d : Cpu) : intConfig s c n = intConfig s d n := by
  unfold intConfig
  rw [edgeOf_spi h c d]

theorem cfgProgrammable_spi {cfg : Config} (h : 32 ≤ n) (c d : Cpu) :
    cfgProgrammable cfg c n = cfgProgrammable cfg d n := by
  unfold cfgProgrammable
  rw [slot_spi_eq h c d]

theorem cfgProgrammable_eq_true {cfg : Config} : cfgProgrammable cfg c n = true ↔
    16 ≤ n ∧ (n < 32 → cfg.ppiProgrammable.getLsbD (slot c n) = true) := by
  simp only [cfgProgrammable, Bool.or_eq_true, Bool.and_eq_true, decide_eq_true_eq]
  by_cases hn : n < 32
  · have hspi : ¬ 32 ≤ n := by omega
    simp [hn, hspi]
  · have hspi : 32 ≤ n := by omega
    have h16 : 16 ≤ n := by omega
    simp [hn, hspi, h16]

/-- The fields of R246 are the Writable fields of the register (R105) whose mode is programmable. -/
theorem triggerField_iff : TriggerField s req ns m c n ↔
    n / 16 = m ∧ Reaches s req c n ∧ writable s c n ns = true ∧
      cfgProgrammable s.cfg c n = true := by
  rw [TriggerField, cfgProgrammable_eq_true]

theorem TriggerField.lt (h : TriggerField s req ns m c n) : n < 1020 := by
  obtain ⟨-, -, hw, -⟩ := h
  exact writable_lt hw

/-- A write of ICDICFRm acts on interrupt (c,n) exactly if n is of the register, the requester reaches
(c,n), and the field is Writable and meets the further condition (R246). -/
theorem configTargets_slot {further : Cpu → Nat → Bool} (hn : n < 1020)
    (hf : 32 ≤ n → ∀ c d, further c n = further d n) :
    (configTargets s (sourceId s.cfg req) ns m further).getLsbD (slot c n) = true ↔
      n / 16 = m ∧ Reaches s req c n ∧ writable s c n ns = true ∧ further c n = true := by
  have hcopy : ∀ {d}, (n < 32 → d = c) → ((writable s d n ns = true ∧ further d n = true) ↔
      (writable s c n ns = true ∧ further c n = true)) := fun {d} hdc => by
    rw [eq_of_sameCopy (f := fun c => writable s c n ns) writable_spi hdc,
      eq_of_sameCopy (f := fun c => further c n) hf hdc]
  rw [getLsbD_configTargets]
  constructor
  · rintro ⟨-, d, hb, hlo, hhi, hfield⟩
    obtain ⟨f, hslot⟩ := Nat.exists_eq_add_of_le hlo
    have hf16 : f < 16 := by omega
    rw [hslot, Nat.add_sub_cancel_left] at hfield
    rw [← slot_instance16 d m f hf16] at hslot
    obtain ⟨rfl, hcd⟩ := slot_inj.mp hslot
    rw [← bank_instance16 _ m f hf16] at hb
    have hdc : 16 * m + f < 32 → d = c := fun hp => (hcd hp).symm
    exact ⟨by omega, fun hp => hdc hp ▸ reaches_of_bank hb hp, (hcopy hdc).mp hfield⟩
  · rintro ⟨rfl, hr, hfield⟩
    obtain ⟨d, hb, hslot, hdc⟩ := hr.exists_bank16
    refine ⟨slot_lt c hn, d, hb, by omega, by omega, ?_⟩
    rw [hslot, Nat.add_sub_cancel_left, Nat.div_add_mod]
    exact (hcopy hdc).mpr hfield

/-- The mode that the data word has for interrupt (c,n), at its slot (R140). -/
theorem configData_slot (hn : n < 1020) (hr : Reaches s req c n) :
    (configData (sourceId s.cfg req) (n / 16) data).getLsbD (slot c n) =
      data.getLsbD (2 * (n % 16) + 1) := by
  obtain ⟨d, hb, hslot, -⟩ := hr.exists_bank16
  have hlt := slot_lt c hn
  have hmod : n % 16 < 16 := Nat.mod_lt n (by decide)
  rw [hslot] at hlt ⊢
  simp only [configData, hb]
  rw [getLsbD_shifted _ _ _ hlt, getLsbD_bitsOf, decide_eq_true hmod, Bool.true_and]

theorem triggerTargets_slot (hn : n < 1020) :
    (configTargets s (sourceId s.cfg req) ns m (cfgProgrammable s.cfg)).getLsbD (slot c n) = true ↔
      TriggerField s req ns m c n := by
  rw [configTargets_slot hn cfgProgrammable_spi, triggerField_iff]

/-- The raise of R246: some field that the write reaches would change the mode of an enabled
interrupt. -/
theorem any_triggerConflict :
    (List.range 16).any (triggerConflict s (sourceId s.cfg req) ns m data) = true ↔
      ∃ c n, TriggerField s req ns m c n ∧ edgeOf s c n ≠ data.getLsbD (2 * (n % 16) + 1) ∧
        enOf s c n = true := by
  have hfield : ∀ f, triggerConflict s (sourceId s.cfg req) ns m data f = true ↔
      ∃ c, Reaches s req c (16 * m + f) ∧ writable s c (16 * m + f) ns = true ∧
        (cfgProgrammable s.cfg c (16 * m + f) = true ∧
          edgeOf s c (16 * m + f) ≠ data.getLsbD (2 * f + 1)) ∧
        enOf s c (16 * m + f) = true := fun f => by
    unfold triggerConflict
    rw [writesField_eq_true fun hn c d => by
      rw [cfgProgrammable_spi hn c d, edgeOf_spi hn c d, enOf_spi hn c d]]
    simp only [Bool.and_eq_true, decide_eq_true_eq]
  simp only [List.any_eq_true, List.mem_range, hfield, triggerField_iff]
  constructor
  · rintro ⟨f, hf, c, hr, hw, ⟨hp, hne⟩, he⟩
    have hmod : (16 * m + f) % 16 = f := by omega
    exact ⟨c, 16 * m + f, ⟨by omega, hr, hw, hp⟩, by rwa [hmod], he⟩
  · rintro ⟨c, n, ⟨rfl, hr, hw, hp⟩, hne, he⟩
    refine ⟨n % 16, by omega, c, ?_⟩
    rw [Nat.div_add_mod]
    exact ⟨hr, hw, ⟨hp, hne⟩, he⟩

end

/-- Settles O27: bit 2F+1 is the mode of interrupt 16n+F in the bank of the requester, bit 2F none. -/
theorem triggerRead : Obligations.TriggerRead := by
  intro s a m h
  refine ⟨_, h.read, fun f hf => ?_⟩
  have heven : ¬ 2 * f % 2 = 1 := by omega
  have hodd : (2 * f + 1) % 2 = 1 := by omega
  have hfield : (2 * f + 1) / 2 = f := by omega
  have hbit : 2 * f + 1 < 32 := by omega
  simp only [getLsbD_configRead, heven, hodd, hfield, hbit, decide_true, decide_false,
    Bool.true_and, Bool.false_and, Bool.and_false, true_and]
  rw [readField_eq_true fun hn => intConfig_spi hn]
  simp only [intConfig_eq_true]

/-- Settles O28: the write finds an enabled interrupt among the fields whose mode it changes, or stores
the written modes in all the fields it reaches. -/
theorem triggerWrite : Obligations.TriggerWrite := by
  intro s a m data h hi reached written
  have hexec : exec (.wrIcdicfr m a data) s =
      .next (writeIcdicfr (sourceId s.cfg a.req) a.ns m.toNat data s) := h.write hi
  rw [hexec]
  unfold writeIcdicfr
  refine ⟨fun hconflict => ?_, fun hfree => ?_⟩
  · obtain ⟨c, n, -, hconflict⟩ := hconflict
    rw [if_pos (any_triggerConflict.mpr ⟨c, n, hconflict⟩)]
    exact ⟨_, rfl, raise_unpred _ _⟩
  · have hno : ¬ (List.range 16).any
        (triggerConflict s (sourceId s.cfg a.req) a.ns m.toNat data) = true := fun hc => by
      obtain ⟨c, n, hr, hne, he⟩ := any_triggerConflict.mp hc
      exact absurd (hfree c n hr.lt hr hne) (by simp [he])
    rw [if_neg hno]
    refine ⟨_, rfl, fun c n hn => ⟨fun hr => ?_, fun hr => ?_⟩⟩
    · have hmask := (triggerTargets_slot hn).mpr hr
      obtain ⟨hm, hreach, -⟩ := hr
      rw [getLsbD_masked_of_set hmask, BitVec.getLsbD_and, hmask, Bool.and_true, ← hm,
        configData_slot hn hreach]
    · have hunset := Bool.eq_false_iff.mpr fun ht => hr ((triggerTargets_slot hn).mp ht)
      rw [getLsbD_or_of_unset (by rw [BitVec.getLsbD_and, hunset, Bool.and_false]),
        getLsbD_and_not_of_unset hunset]

end Sys2Proof.Machine
end


section
/-! SUPPORT. The software generated interrupt and identification registers of the Distributor, and the
registers that are only written (R281 to R297, R320): the statements about them, settled. -/

namespace Sys2Proof.Machine

/-! ## ICDSGIR. -/

section
variable {s : State} {ns : Bool} {data : Word} {src t : Cpu}

/-- The interfaces that TargetListFilter and CPUTargetList select (R142, R281). -/
theorem sgiSelects_eq_true {cfg : Config} : sgiSelects cfg src data t = true ↔
    t.val < ncpu cfg ∧
      (((data.extractLsb' 24 2).toNat = 0 ∧ data.getLsbD (16 + t.val) = true) ∨
        ((data.extractLsb' 24 2).toNat = 1 ∧ t ≠ src) ∨
        ((data.extractLsb' 24 2).toNat = 2 ∧ t = src)) := by
  simp only [sgiSelects, cpuExists, Bool.and_eq_true, decide_eq_true_eq]
  refine and_congr_right fun _ => ?_
  generalize (data.extractLsb' 24 2).toNat = filter
  match filter with
  | 0 | 1 | 2 | _ + 3 => simp

/-- The interfaces whose security of the SGI is the one the write asks for (R281, Table 4-19). -/
theorem sgiSent_eq_true : sgiSent s ns data t = true ↔
    implemented s.cfg t (data.extractLsb' 0 4).toNat = true ∧
      (s.cfg.secext = true →
        if ns = true then nsbOf s t (data.extractLsb' 0 4).toNat = true
        else nsbOf s t (data.extractLsb' 0 4).toNat = data.getLsbD 15) := by
  simp only [sgiSent, Bool.and_eq_true, Bool.or_eq_true, Bool.not_eq_true', ← Bool.not_eq_true,
    ← imp_iff_not_or]
  refine and_congr_right fun _ => imp_congr_right fun _ => ?_
  by_cases hns : ns = true
  · rw [if_pos hns, if_pos hns]
  · rw [if_neg hns, if_neg hns, decide_eq_true_eq]

/-- A non-zero SBZ field or the reserved filter is UNPREDICTABLE (R153, R281). -/
theorem writeIcdsgir_raises (h : data.extractLsb' 4 11 ≠ 0#11 ∨ (data.extractLsb' 24 2).toNat = 3) :
    ∃ why, writeIcdsgir (some src) ns data s = raise why s := by
  by_cases hsbz : data.extractLsb' 4 11 = 0#11
  · have hfilter : data.extractLsb' 24 2 = 3#2 := BitVec.eq_of_toNat_eq (h.resolve_left (· hsbz))
    exact ⟨_, (if_neg (· hsbz)).trans (if_pos hfilter)⟩
  · exact ⟨_, if_pos hsbz⟩

/-- Any other write adds the SGI from its requester on the interfaces it is sent to (R281). -/
theorem writeIcdsgir_sends (hsbz : data.extractLsb' 4 11 = 0#11)
    (hfilter : (data.extractLsb' 24 2).toNat ≠ 3) :
    ∃ b, writeIcdsgir (some src) ns data s = s.setSgip b ∧
      ∀ (t : Cpu) (n : Nat) (source : Cpu), n < 16 →
        (b.getLsbD (sgipIndex t n source) = true ↔
          s.gic.sgip.getLsbD (sgipIndex t n source) = true ∨
            (n = (data.extractLsb' 0 4).toNat ∧ source = src ∧
              sgiSelects s.cfg src data t = true ∧ sgiSent s ns data t = true)) := by
  have hreserved : data.extractLsb' 24 2 ≠ 3#2 := fun h => hfilter (congrArg BitVec.toNat h)
  refine ⟨_, (if_neg (· hsbz)).trans (if_neg hreserved), fun t n source hn => ?_⟩
  rw [getLsbD_foldl_putBit _ _ _ _ (sgipIndex_lt hn)]
  refine or_congr_right ?_
  simp only [sgipIndex_inj hn (data.extractLsb' 0 4).isLt, Bool.and_eq_true]
  constructor
  · rintro ⟨t, -, hsent, rfl, hid, hsource⟩
    exact ⟨hid, hsource, hsent⟩
  · rintro ⟨hid, hsource, hsent⟩
    exact ⟨t, List.mem_finRange t, hsent, rfl, hid, hsource⟩

end

/-- Settles O29: without a requester the write is ignored, and with one it raises UNPREDICTABLE or
sends the SGI to the interfaces that are selected and have the security it asks for. -/
theorem sgiWrite : Obligations.SgiWrite := by
  intro s a data h hi filter id
  have hexec : exec (.wrIcdsgir a data) s =
      .next (writeIcdsgir (sourceId s.cfg a.req) a.ns data s) := h.write hi
  rw [hexec]
  refine ⟨fun hnone => by rw [hnone]; rfl, fun src hsrc => ?_⟩
  rw [hsrc]
  refine ⟨fun hraise => ?_, fun hsbz hfilter => ?_⟩
  · obtain ⟨why, hw⟩ := writeIcdsgir_raises (s := s) (ns := a.ns) (src := src) hraise
    exact ⟨_, congrArg _ hw, raise_unpred why s⟩
  · obtain ⟨b, hw, hb⟩ := writeIcdsgir_sends (s := s) (ns := a.ns) (src := src) hsbz hfilter
    refine ⟨b, congrArg _ hw, fun t n source hn => (hb t n source hn).trans ?_⟩
    rw [sgiSelects_eq_true, sgiSent_eq_true]
    simp only [filter, id, and_assoc, and_left_comm]

/-! ## Identification registers. -/

/-- IDREG(0xFE8) as a number: ArchRev, bits [7:4], is 0x1 (R52, R143). -/
theorem icpidr2Value_toNat (cfg : Config) :
    (icpidr2Value cfg).toNat =
      cfg.idRegs.icpidr2High.toNat * 2 ^ 8 + 2 ^ 4 + cfg.idRegs.icpidr2Low.toNat := by
  simp only [icpidr2Value, toNat_append_eq, BitVec.toNat_ofNat]
  omega

/-- The fields of ICPIDR2 (R291). -/
theorem icpidr2Value_fields (cfg : Config) :
    (icpidr2Value cfg).extractLsb' 8 24 = cfg.idRegs.icpidr2High ∧
      (icpidr2Value cfg).extractLsb' 4 4 = 1#4 ∧
      (icpidr2Value cfg).extractLsb' 0 4 = cfg.idRegs.icpidr2Low := by
  have hv := icpidr2Value_toNat cfg
  refine ⟨extractLsb'_eq_of_toNat ?_, extractLsb'_eq_of_toNat ?_, extractLsb'_eq_of_toNat ?_⟩ <;>
    rw [hv] <;> bv_omega

/-- Settles O9: each of the twelve is a read of its constant, and that of ICPIDR2 has ArchRev 0x1. -/
theorem identificationReads : Obligations.IdentificationReads := fun s _ h =>
  ⟨h.read, h.read, h.read, h.read, h.read, h.read, h.read, h.read, h.read, h.read, h.read,
    icpidr2Value s.cfg, h.read, icpidr2Value_fields s.cfg⟩

/-! ## Registers that are only written. -/

/-- Settles O13: the value read is the next UNKNOWN one, and its count is all else that changes. -/
theorem writeOnlyReads : Obligations.WriteOnlyReads :=
  ⟨fun s _ h => ⟨Config.unknown32 s.tick, h.effect⟩, fun s _ h => ⟨Config.unknown32 s.tick, h.effect⟩⟩

end Sys2Proof.Machine
end

section
/-! SUPPORT. The controls, the priority mask, the binary points and the running priority of a CPU
interface: the statements about these registers, settled. -/

namespace Sys2Proof.Machine

-- One theorem after another, as in the tests above: many threads at once need too much memory.
set_option Elab.async false

/-! ## ICCICR. -/

theorem getLsbD_eq_false_of_lt {w n k : Nat} {x : BitVec w} (hx : x.toNat < 2 ^ n) (hk : n ≤ k) :
    x.getLsbD k = false :=
  Nat.testBit_lt_two_pow (hx.trans_le (Nat.pow_le_pow_right (by decide) hk))

/-- No bit of ICCICR above bit [4] is used (R311). -/
theorem iccicrValue_lt (s : State) (c : Cpu) (ns : Bool) : (iccicrValue s c ns).toNat < 2 ^ 5 := by
  have hbit : ∀ b : Bool, ((BitVec.ofBool b).setWidth 32).toNat < 2 ^ 5 := by decide
  unfold iccicrValue
  simp only
  split
  · exact hbit _
  split
  · exact hbit _
  · simp only [toNat_append_eq, BitVec.toNat_ofNat]
    omega

/-- ICCICR in the Non-secure view and without the Security Extensions: bit [0] alone (R311). -/
theorem iccicrValue_of_single {s : State} {c : Cpu} {ns : Bool}
    (h : s.cfg.secext = false ∨ ns = true) :
    iccicrValue s c ns = (BitVec.ofBool (if s.cfg.secext = true ∧ ns = true then (s.ifc c).enableNS
      else (s.ifc c).enableS)).setWidth 32 := by
  unfold iccicrValue
  by_cases hx : s.cfg.secext = true
  · obtain hx' | hns := h
    · rw [hx] at hx'; cases hx'
    · simp [hx, hns]
  · simp [hx]

/-- Five one-bit fields below 27 zeros are the bits [4:0] of a word. -/
theorem getLsbD_fiveFields : ∀ b4 b3 b2 b1 b0 : Bool,
    let v : Word := 0#27 ++ BitVec.ofBool b4 ++ BitVec.ofBool b3 ++ BitVec.ofBool b2
      ++ BitVec.ofBool b1 ++ BitVec.ofBool b0
    v.getLsbD 0 = b0 ∧ v.getLsbD 1 = b1 ∧ v.getLsbD 2 = b2 ∧ v.getLsbD 3 = b3 ∧
      v.getLsbD 4 = b4 := by
  decide

/-- ICCICR in the Secure view: five fields (R311). -/
theorem iccicrValue_of_secure {s : State} {c : Cpu} (hx : s.cfg.secext = true) :
    iccicrValue s c false = 0#27 ++ BitVec.ofBool (s.ifc c).sbpr ++ BitVec.ofBool (s.ifc c).fiqEn
      ++ BitVec.ofBool (s.ifc c).ackCtl ++ BitVec.ofBool (s.ifc c).enableNS
      ++ BitVec.ofBool (s.ifc c).enableS := by
  simp [iccicrValue, hx]

/-- Settles O30: in each of the two views the bits are the fields of the value. -/
theorem iccicrRead : Obligations.IccicrRead := by
  intro s a h
  refine ⟨iccicrValue s a.ifc a.ns, h.read,
    fun k hk => getLsbD_eq_false_of_lt (iccicrValue_lt s a.ifc a.ns) hk, ?_⟩
  by_cases hview : s.cfg.secext = false ∨ a.ns = true
  · have hother : (s.cfg.secext && !a.ns) = false := by
      simpa [Classical.or_iff_not_imp_left] using hview
    rw [iccicrValue_of_single hview, hother]
    simp
  · obtain ⟨hx, hns⟩ : s.cfg.secext = true ∧ a.ns = false := by simpa using hview
    rw [hns, iccicrValue_of_secure hx, hx]
    exact getLsbD_fiveFields _ _ _ _ _

/-- Settles O31: the four cases of R312. -/
theorem iccicrWrite : Obligations.IccicrWrite := by
  intro s a data h all
  have hexec : exec (.wrIccicr a data) s = .next (writeIccicr a.ifc a.ns data s) := h.write
  rw [hexec]
  unfold writeIccicr
  by_cases hx : s.cfg.secext = true
  · by_cases hns : a.ns = true
    · simp [all, hx, hns]
    · by_cases hl : lockActive s = true
      · simp [all, hx, hns, hl]
      · simp [all, hx, hns, hl]
  · simp [all, hx]

/-! ## ICCPMR. -/

/-- Bit [7] of a priority value says that it is 0x80 or more. -/
theorem getLsbD_seven_iff (v : Byte) : v.getLsbD 7 = true ↔ 128 ≤ v.toNat := by
  rw [show v.getLsbD 7 = v.msb from (BitVec.msb_eq_getLsbD_last v).symm, BitVec.msb_eq_decide,
    decide_eq_true_eq]

/-- The Non-secure view of ICCPMR and ICCRPR (R313, R321). -/
theorem nsViewOfRegister_eq (cfg : Config) (v : Byte) :
    nsViewOfRegister cfg v = if v.toNat < 128 then 0#8 else (v &&& pMask cfg) <<< 1 := by
  unfold nsViewOfRegister
  by_cases h : v.toNat < 128
  · rw [if_neg (by rw [getLsbD_seven_iff]; omega), if_pos h]
  · rw [if_pos (by rw [getLsbD_seven_iff]; omega), if_neg h, nsViewRead]

/-- The Non-secure view as a number (R313). -/
theorem nsViewOfRegister_toNat (cfg : Config) (v : Byte) :
    (nsViewOfRegister cfg v).toNat =
      if v.toNat < 128 then 0 else 2 * (v &&& pMask cfg).toNat % 256 := by
  rw [nsViewOfRegister_eq]
  split
  · rfl
  · rw [BitVec.toNat_shiftLeft, Nat.shiftLeft_eq, Nat.mul_comm, pow_one]

/-- Settles O32: the value read is that of the view, and the invariant masks PMR. -/
theorem iccpmrRead : Obligations.IccpmrRead := by
  intro s a h
  refine ⟨iccpmrValue s a.ifc a.ns, h.read, ?_, fun hinv hview => ?_⟩
  · simp only [iccpmrValue, Bool.and_eq_true, apply_ite BitVec.toNat,
      BitVec.toNat_setWidth_of_le (show 8 ≤ 32 by decide), nsViewOfRegister_toNat]
  · have hsecure : ¬ (s.cfg.secext && a.ns) = true := by
      obtain hx | hns := hview <;> simp [*]
    have hmask : (s.ifc a.ifc).pmr &&& ~~~ pMask s.cfg = 0#8 :=
      ((hinv h.1).prioritiesMasked).2 a.ifc
    rw [iccpmrValue, if_neg hsecure, ← BitVec.setWidth_and, hmask, BitVec.setWidth_zero]

/-- Settles O33: Non-secure only while bit [7] of PMR is 1. -/
theorem iccpmrWrite : Obligations.IccpmrWrite := by
  intro s a data h
  have hexec : exec (.wrIccpmr a data) s = .next (writeIccpmr a.ifc a.ns data s) := h.write
  rw [hexec]
  simp only [writeIccpmr, Bool.and_eq_true, getLsbD_seven_iff, nsViewWrite, sViewWrite, dataByte,
    Nat.mul_zero]

/-! ## ICCBPR and ICCABPR. -/

/-- A written binary point is saturated to the minimum (R316). -/
theorem binaryPointStored_toNat (cfg : Config) (data : Word) :
    (binaryPointStored cfg data).toNat = max (data.toNat % 8) (minimumBinaryPoint cfg) := by
  have hv : (data.setWidth 3).toNat = data.toNat % 8 := BitVec.toNat_setWidth ..
  unfold binaryPointStored
  simp only
  split
  · rw [minBinaryPoint_toNat]; omega
  · omega

/-- ICCBPR as a number (R315). -/
theorem iccbprValue_toNat (s : State) (c : Cpu) (ns : Bool) :
    (iccbprValue s c ns).toNat = if s.cfg.secext = true ∧ ns = true then (s.ifc c).bprNS.toNat
      else (s.ifc c).bprS.toNat := by
  simp only [iccbprValue, Bool.and_eq_true, apply_ite BitVec.toNat,
    BitVec.toNat_setWidth_of_le (show 3 ≤ 32 by decide)]

/-- ICCABPR as a number (R323). -/
theorem iccabprValue_toNat (s : State) (c : Cpu) (ns : Bool) :
    (iccabprValue s c ns).toNat =
      if s.cfg.secext = true ∧ ns = false then (s.ifc c).bprNS.toNat else 0 := by
  simp only [iccabprValue, Bool.and_eq_true, Bool.not_eq_true', apply_ite BitVec.toNat,
    BitVec.toNat_setWidth_of_le (show 3 ≤ 32 by decide), BitVec.toNat_zero]

/-- Settles O34: each register is the binary point of the copy it reaches. -/
theorem binaryPoints : Obligations.BinaryPoints := by
  intro s a h
  refine ⟨⟨iccbprValue s a.ifc a.ns, h.read, iccbprValue_toNat s a.ifc a.ns, fun hinv => ?_⟩,
    ⟨iccabprValue s a.ifc a.ns, h.read, iccabprValue_toNat s a.ifc a.ns⟩,
    fun data => ⟨binaryPointStored s.cfg data, binaryPointStored_toNat s.cfg data, ?_, ?_⟩⟩
  · obtain ⟨hS, hNS⟩ := (hinv h.1).binaryPoints a.ifc
    rw [iccbprValue_toNat]
    split
    · exact hNS
    · exact hS
  · have hexec : exec (.wrIccbpr a data) s = .next (writeIccbpr a.ifc a.ns data s) := h.write
    simp only [hexec, writeIccbpr, Bool.and_eq_true, apply_ite (s.withIfc a.ifc)]
  · have hexec : exec (.wrIccabpr a data) s = .next (writeIccabpr a.ifc a.ns data s) := h.write
    simp only [hexec, writeIccabpr, Bool.and_eq_true, Bool.not_eq_true']

/-! ## ICCRPR. -/

/-- ICCRPR in the view of the access (R321). -/
theorem iccrprValue_eq (s : State) (ns : Bool) (v : Byte) :
    iccrprValue s ns v = (if s.cfg.secext = true ∧ ns = true then
      (if v.toNat < 128 then 0#8 else (v &&& pMask s.cfg) <<< 1) else v).setWidth 32 := by
  simp only [iccrprValue, Bool.and_eq_true, nsViewOfRegister_eq, apply_ite (BitVec.setWidth 32)]

theorem idlePriority_cases (s : State) :
    idlePriority s = 0xFF#8 ∨ idlePriority s = pMask s.cfg := by
  unfold idlePriority
  split
  · exact .inl rfl
  · exact .inr rfl

/-- With nothing active a read of ICCRPR draws an idle value (R321). -/
theorem readIccrpr_idle {s : State} {c : Cpu} (h : (s.ifc c).active = []) (ns : Bool) :
    readIccrpr s c ns = (s.respond (iccrprValue s ns (idlePriority s))).drawn := by
  rw [readIccrpr, runningPriority_eq_none.mpr h]

/-- With something active a read of ICCRPR returns a smallest priority of the active list (R49). -/
theorem readIccrpr_active {s : State} {c : Cpu} (h : (s.ifc c).active ≠ []) (ns : Bool) :
    ∃ e ∈ (s.ifc c).active,
      (∀ e' ∈ (s.ifc c).active, (entryPriority s c e).toNat ≤ (entryPriority s c e').toNat) ∧
      readIccrpr s c ns = s.respond (iccrprValue s ns (entryPriority s c e)) := by
  obtain ⟨r, hr⟩ := Option.ne_none_iff_exists'.mp (mt runningPriority_eq_none.mp h)
  obtain ⟨e, he, rfl, hmin⟩ := runningPriority_eq_some.mp hr
  exact ⟨e, he, hmin, by rw [readIccrpr, hr]⟩

/-- Settles O41: the running priority, or the idle value, in the view of the access. -/
theorem runningPriorityRead : Obligations.RunningPriorityRead := by
  intro s a h view priority
  have hexec : exec (.rdIccrpr a) s = .next (readIccrpr s a.ifc a.ns) := h.effect
  rw [hexec]
  refine ⟨fun hidle => ⟨idlePriority s, idlePriority_cases s, ?_⟩, fun hactive => ?_⟩
  · rw [readIccrpr_idle hidle, iccrprValue_eq]
    rfl
  · obtain ⟨e, he, hmin, hread⟩ := readIccrpr_active hactive a.ns
    refine ⟨e, he, hmin, ?_⟩
    rw [hread, iccrprValue_eq]
    rfl

end Sys2Proof.Machine
end

section
/-! SUPPORT. What the acknowledge and end of interrupt registers obtain and change: the statements
about ICCIAR, ICCHPIR and ICCEOIR, settled. -/

namespace Sys2Proof.Machine

-- One theorem after another, as in the tests above: many threads at once need too much memory.
set_option Elab.async false

/-! ## What a read of ICCIAR and of ICCHPIR obtains. -/

section
variable {s : State} {c : Cpu} {ns : Bool} {p : IntRef}

/-- A Non-secure access does not obtain a Secure interrupt (Table 4-30, R432). -/
theorem iarSecurity_secure (hx : s.cfg.secext = true) (hs : isSecureInt s c p.id = true) :
    iarSecurity s c true p = .spurious1023 := by
  simp [iarSecurity, hx, hs]

/-- A Secure access obtains no Non-secure interrupt with AckCtl = 0 (Table 4-30, R432). -/
theorem iarSecurity_hidden (hx : s.cfg.secext = true) (hs : isSecureInt s c p.id = false)
    (ha : (s.ifc c).ackCtl = false) : iarSecurity s c false p = .spurious1022 := by
  simp [iarSecurity, hx, hs, ha]

/-- An access obtains an interrupt whose security it may acknowledge (Table 4-30, R432). -/
theorem iarSecurity_allowed
    (hsec : s.cfg.secext = true → isSecureInt s c p.id = true → ns = false)
    (hnon : s.cfg.secext = true → isSecureInt s c p.id = false → ns = false →
      (s.ifc c).ackCtl = true) : iarSecurity s c ns p = .valid p := by
  unfold iarSecurity
  rw [if_neg, if_neg]
  · simp only [Bool.and_eq_true, Bool.not_eq_true']
    rintro ⟨⟨⟨hx, hs⟩, hns⟩, ha⟩
    rw [hnon hx hs hns] at ha
    cases ha
  · simp only [Bool.and_eq_true]
    rintro ⟨⟨hx, hs⟩, hns⟩
    rw [hsec hx hs] at hns
    cases hns

/-- A signalable highest priority pending interrupt is obtained as Table 4-30 says (R432). -/
theorem iarValue_of_signalable (hp : hppi s c = some p) (hs : signalable s c p.id = true) :
    iarValue s c ns = iarSecurity s c ns p := by
  unfold iarValue
  rw [hp]
  exact if_pos hs

theorem iarValue_of_not_signalable (hp : hppi s c = some p) (hs : signalable s c p.id = false) :
    iarValue s c ns = .spurious1023 := by
  unfold iarValue
  rw [hp]
  exact if_neg (by rw [hs]; decide)

theorem iarValue_of_none (hp : hppi s c = none) : iarValue s c ns = .spurious1023 := by
  unfold iarValue
  rw [hp]

/-- The word for what is obtained: an interrupt, or one of the special identifiers (R317). -/
def IarValue.word : IarValue → Word
  | .spurious1023 => 0x3FF#32
  | .spurious1022 => 0x3FE#32
  | .valid p => intWord p

/-- A read of ICCIAR that takes no window and obtains no interrupt closes the windows of the reader
alone (R317, R441). -/
theorem readIar_spurious (hw : windowSpi s c ns = none) (hv : ∀ q, iarValue s c ns ≠ .valid q) :
    readIar s c ns = (closeOwnWindows s c).respond (iarValue s c ns).word := by
  simp only [readIar, hw]
  cases hi : iarValue s c ns with
  | spurious1023 => rfl
  | spurious1022 => rfl
  | valid q => exact absurd hi (hv q)

/-- A read of ICCIAR that takes no window and obtains an interrupt acknowledges it (R317, R432). -/
theorem readIar_valid (hw : windowSpi s c ns = none) (hv : iarValue s c ns = .valid p) :
    readIar s c ns = (acknowledge (closeOwnWindows s c) c p).respond (intWord p) := by
  simp only [readIar, hw, hv]

/-- With the Security Extensions ICCHPIR shows what ICCIAR would obtain (Table 4-35, R325). -/
theorem icchpirValue_of_secext (hx : s.cfg.secext = true) :
    icchpirValue s c ns = (iarValue s c ns).word := by
  unfold icchpirValue iarValue
  cases hppi s c with
  | none => rfl
  | some q =>
    cases hs : signalable s c q.id
    · simp [hx, hs, IarValue.word]
    · simp only [hx, hs, Bool.not_true, Bool.false_eq_true, if_true, if_false]
      cases iarSecurity s c ns q <;> rfl

/-- With no candidate ICCHPIR is 1023 (R325). -/
theorem icchpirValue_of_none (hp : hppi s c = none) : icchpirValue s c ns = 0x3FF#32 := by
  unfold icchpirValue
  rw [hp]

/-- Without the Security Extensions ICCHPIR shows the highest priority pending interrupt, unless the
interface is disabled or the priority filter stops it (R325). -/
theorem icchpirValue_of_not_secext (hx : s.cfg.secext = false) (hp : hppi s c = some p) :
    icchpirValue s c ns =
      if (s.ifc c).enableS = false ∨
        (s.cfg.hpirPriorityFilter = true ∧ sufficientPriority s c p.id = false)
      then 0x3FF#32 else intWord p := by
  unfold icchpirValue
  rw [hp]
  cases (s.ifc c).enableS
  · simp [hx]
  · simp [hx]

/-- The word of HPPI(c) in ICCIAR and ICCHPIR as a number (R147, R150). -/
theorem intWord_toNat (hp : hppi s c = some p) :
    (intWord p).toNat = 1024 * p.src.val + p.id := by
  have hid : p.id < 1020 := implemented_lt (cand_implemented (mem_topCands.mp (hppi_mem hp)).1)
  simp only [intWord, toNat_append_eq, BitVec.toNat_ofNat]
  omega

end

/-- Settles O35: each row of Table 4-30 without an interrupt. -/
theorem acknowledgeSpurious : Obligations.AcknowledgeSpurious := by
  intro s a h hw c after
  have hread : ∀ v : IarValue, iarValue s c a.ns = v → (∀ q, v ≠ .valid q) →
      exec (.rdIcciar a) s = .next (after v.word) := by
    rintro v rfl hv
    have hexec : exec (.rdIcciar a) s = .next (readIar s c a.ns).drawn := h.effect
    rw [hexec, readIar_spurious hw hv]
    rfl
  refine ⟨fun hnone => hread .spurious1023 ?_ (by simp),
    fun hhidden => hread .spurious1022 ?_ (by simp)⟩
  · obtain hp | ⟨p, hp, hns | ⟨hx, hs, hns⟩⟩ := hnone
    · exact iarValue_of_none hp
    · exact iarValue_of_not_signalable hp hns
    · rw [hns]
      by_cases hsig : signalable s c p.id = true
      · rw [iarValue_of_signalable hp hsig, iarSecurity_secure hx hs]
      · exact iarValue_of_not_signalable hp (Bool.eq_false_iff.mpr hsig)
  · obtain ⟨p, hp, hsig, hx, hs, hns, ha⟩ := hhidden
    rw [iarValue_of_signalable hp hsig, hns, iarSecurity_hidden hx hs ha]

/-- Settles O42: with the Security Extensions by Table 4-30, without them by the filter. -/
theorem highestPendingRead : Obligations.HighestPendingRead := by
  intro s a h c
  refine ⟨icchpirValue s c a.ns, h.effect, icchpirValue_of_none, fun p hp => ?_⟩
  rw [← intWord_toNat hp]
  refine ⟨fun hx hsig => ?_, fun hx hsig => ?_, fun hx => ?_⟩
  · rw [icchpirValue_of_secext hx, iarValue_of_not_signalable hp hsig]
    rfl
  · rw [icchpirValue_of_secext hx, iarValue_of_signalable hp hsig]
    refine ⟨fun hs hns => ?_, fun hs hns => ?_, fun hs hns => ?_, fun hs hns ha => ?_⟩
    · rw [hns, iarSecurity_secure hx hs]
      rfl
    · rw [iarSecurity_allowed (fun _ _ => hns)
        (fun _ hs' => absurd (hs.symm.trans hs') (by decide))]
      rfl
    · rw [iarSecurity_allowed (fun _ hs' => absurd (hs'.symm.trans hs) (by decide))
        (fun _ _ hns' => hns.resolve_left (by simp [hns']))]
      rfl
    · rw [hns, iarSecurity_hidden hx hs ha]
      rfl
  · rw [icchpirValue_of_not_secext hx hp]
    refine ⟨fun hstop => if_pos hstop, fun he hpass => ?_⟩
    rw [if_neg]
    rintro (he' | ⟨hf, hsp⟩)
    · exact absurd (he.symm.trans he') (by decide)
    · obtain hf' | hsp' := hpass
      · exact absurd (hf.symm.trans hf') (by decide)
      · exact absurd (hsp'.symm.trans hsp) (by decide)

/-! ## Taking an interrupt. -/

theorem getLsbD_putBit_false {w : Nat} (b : BitVec w) (i k : Nat) :
    (putBit b i false).getLsbD k = (b.getLsbD k && !decide (k = i)) := by
  rw [getLsbD_putBit]
  by_cases hi : k = i
  · subst hi
    by_cases hk : k < w
    · simp [hk]
    · simp [hk, BitVec.getLsbD_of_ge b k (Nat.le_of_not_lt hk)]
  · simp [hi]

/-- The interrupts that have double-acknowledge windows: SPIs, where they are allowed (R42, R8). -/
theorem hasWindow_iff {cfg : Config} {n : Nat} :
    (decide (32 ≤ n) && doubleAckAllowed cfg) = true ↔ 32 ≤ n ∧ cfg.spiDoubleAck = .allowed := by
  simp [doubleAckAllowed]

section
variable (s : State) (c d : Cpu) (p : IntRef)

/-- An acknowledge changes the interfaces and the pending state alone (R431, R92). -/
theorem acknowledge_frame :
    acknowledge s c p = { s with gic := { s.gic with
      ifcs := (acknowledge s c p).gic.ifcs, latch := (acknowledge s c p).gic.latch,
      sgip := (acknowledge s c p).gic.sgip } } := by
  unfold acknowledge clearPending
  split <;> split <;> rfl

/-- An interface after an acknowledge (R431): the active list and the window apart, it is as
before. -/
theorem acknowledge_ifc :
    (acknowledge s c p).ifc d = { s.ifc d with
      active := ((acknowledge s c p).ifc d).active
      ackWindow := if 32 ≤ p.id ∧ s.cfg.spiDoubleAck = .allowed then
        putBit (s.ifc d).ackWindow (slot d p.id) (opensWindowFor s c p.id d)
        else (s.ifc d).ackWindow } := by
  unfold acknowledge
  simp only [hasWindow_iff, pushActive, State.withIfc_ifc, clearPending_ifc]
  by_cases hd : d = c
  · subst hd
    by_cases hw : 32 ≤ p.id ∧ s.cfg.spiDoubleAck = .allowed
    · simp only [if_pos hw, if_true, setAckWindow_ifc]
    · simp only [if_neg hw, if_true]
  · by_cases hw : 32 ≤ p.id ∧ s.cfg.spiDoubleAck = .allowed
    · simp only [if_pos hw, if_neg hd, setAckWindow_ifc]
    · simp only [if_neg hw, if_neg hd]

/-- The double-acknowledge windows after an acknowledge (R431). -/
theorem acknowledge_window {n : Nat} (hn : 32 ≤ n) (hlt : n < 1020) :
    ((acknowledge s c p).ifc d).ackWindow.getLsbD (slot d n) =
      if n = p.id ∧ s.cfg.spiDoubleAck = .allowed then opensWindowFor s c n d
      else (s.ifc d).ackWindow.getLsbD (slot d n) := by
  rw [acknowledge_ifc]
  by_cases ha : s.cfg.spiDoubleAck = .allowed
  · by_cases hid : n = p.id
    · rw [if_pos ⟨hid ▸ hn, ha⟩, if_pos ⟨hid, ha⟩, ← hid, getLsbD_putBit,
        if_pos ⟨rfl, slot_lt d hlt⟩]
    · by_cases h32 : 32 ≤ p.id <;> simp [ha, h32, hid, getLsbD_putBit, slot_inj]
  · simp [ha]

end

section
variable (s : State) (c d : Cpu) (n : Nat)

/-- Closing the windows of one interface changes the windows of that interface alone (R441). -/
theorem closeOwnWindows_ifc :
    (closeOwnWindows s c).ifc d = { s.ifc d with
      ackWindow := if d = c then 0#1244 else (s.ifc d).ackWindow } := by
  rw [closeOwnWindows, State.withIfc_ifc]
  by_cases hd : d = c
  · simp [hd]
  · simp [hd]

@[simp] theorem closeOwnWindows_cfg : (closeOwnWindows s c).cfg = s.cfg := rfl
@[simp] theorem closeOwnWindows_latch : (closeOwnWindows s c).gic.latch = s.gic.latch := rfl
@[simp] theorem closeOwnWindows_sgip : (closeOwnWindows s c).gic.sgip = s.gic.sgip := rfl

/-- Windows do not matter to the candidates of an interface (R423). -/
theorem topCands_closeOwnWindows : topCands (closeOwnWindows s c) d = topCands s d := by
  have hact : act (closeOwnWindows s c) = act s :=
    funext fun e => funext fun m => act_eq_of_active_eq (closeOwnWindows_active s c e) m
  have hcand : isCand (closeOwnWindows s c) d = isCand s d := by
    funext q
    unfold isCand candSgi cand actAny
    rw [hact]
    rfl
  unfold topCands cands
  rw [hcand]
  rfl

/-- Windows do not matter to what is signalable to an interface (R427). -/
theorem signalable_closeOwnWindows : signalable (closeOwnWindows s c) d n = signalable s d n := by
  unfold signalable sufficientPriority ifcEnabledFor runningPriority groupMask
  rw [closeOwnWindows_ifc]
  rfl

/-- The windows an acknowledge opens do not depend on the windows of the reader (R431). -/
theorem opensWindowFor_closeOwnWindows :
    opensWindowFor (closeOwnWindows s c) c n d = opensWindowFor s c n d := by
  unfold opensWindowFor
  rw [topCands_closeOwnWindows, signalable_closeOwnWindows]
  rfl

/-- The interface that acknowledges is not in the window it opens (R431). -/
theorem opensWindowFor_self : opensWindowFor s c n c = false := by
  simp [opensWindowFor]

theorem opensWindowFor_iff {s : State} {c d : Cpu} {n : Nat} (hd : d ≠ c) :
    opensWindowFor s c n d = true ↔
      d.val < ncpu s.cfg ∧ { id := n, src := 0 } ∈ topCands s d ∧ signalable s d n = true := by
  simp [opensWindowFor, hd, cpuExists, and_assoc]

end

/-- Settles O36: the acknowledge of HPPI(c), with the windows of the reader closed before. -/
theorem acknowledgeValid : Obligations.AcknowledgeValid := by
  intro s a p h hw hp hsig hsec hnon
  have hv : iarValue s a.ifc a.ns = .valid p := by
    rw [iarValue_of_signalable hp hsig, iarSecurity_allowed hsec hnon]
  have hexec : exec (.rdIcciar a) s = .next (readIar s a.ifc a.ns).drawn := h.effect
  have hcand : isCand s a.ifc p = true := (mem_topCands.mp (hppi_mem hp)).1
  have hid : p.id < 1020 := implemented_lt (cand_implemented hcand)
  rw [hexec, readIar_valid hw hv]
  refine ⟨_, rfl, ?_, intWord_toNat hp, fun d => ?_, fun d => ?_, fun k => ?_, fun k => ?_,
    fun k => ?_, fun d hd n hn hlt => ?_⟩
  · rw [acknowledge_frame]
    rfl
  · simp only [State.drawn_ifc, State.respond_ifc]
    rw [acknowledge_ifc, closeOwnWindows_ifc]
  · simp only [State.drawn_ifc, State.respond_ifc, acknowledge_active, closeOwnWindows_active]
    by_cases hd : d = a.ifc
    · rw [if_pos hd, if_pos hd, hd]; rfl
    · rw [if_neg hd, if_neg hd]
  · simp only [State.drawn_gic, State.respond_gic_latch, acknowledge_latch]
    by_cases h16 : p.id < 16
    · simp [h16]
    · simp [h16, getLsbD_putBit_false, Nat.le_of_not_lt h16]
  · simp only [State.drawn_gic, State.respond_gic_sgip, acknowledge_sgip]
    by_cases h16 : p.id < 16
    · simp [h16, getLsbD_putBit_false]
    · simp [h16]
  · simp only [State.drawn_ifc, State.respond_ifc]
    rw [acknowledge_ifc, opensWindowFor_closeOwnWindows, opensWindowFor_self, closeOwnWindows_ifc]
    simp only [if_true]
    split
    · simp [getLsbD_putBit_false]
    · simp
  · simp only [State.drawn_ifc, State.respond_ifc]
    rw [acknowledge_window _ _ _ _ hn hlt, opensWindowFor_closeOwnWindows, closeOwnWindows_cfg]
    simp only [closeOwnWindows_ifc, if_neg hd]
    by_cases hnp : n = p.id ∧ s.cfg.spiDoubleAck = .allowed
    · rw [if_pos hnp, if_pos hnp, opensWindowFor_iff hd]
    · rw [if_neg hnp, if_neg hnp]

/-! ## Returning from an interrupt. -/

/-- The identifiers that complete nothing (R319). -/
abbrev EoiSpecial (s : State) (n : Nat) : Prop := n = 1023 ∨ (n = 1022 ∧ s.cfg.secext = true)

/-- The CPUID written to ICCEOIR fits the entry: the source of an SGI in a multiprocessor, 0
otherwise (R319). -/
abbrev EoiCpuidFits (s : State) (e : ActiveEntry) (cpuid : Nat) : Prop :=
  if e.id < 16 ∧ ncpu s.cfg ≠ 1 then cpuid = e.src.val else cpuid = 0

/-- Table 4-32, which applies with the Security Extensions (R434). -/
abbrev EoiAllowed (s : State) (c : Cpu) (ns : Bool) (e : ActiveEntry) : Prop :=
  s.cfg.secext = true →
    if isSecureInt s c e.id = true then ns = false else ns = true ∨ (s.ifc c).ackCtl = true

/-- The entry is the newest one, or the order does not matter (R319). -/
abbrev EoiInOrder (s : State) (c : Cpu) (e : ActiveEntry) : Prop :=
  (s.ifc c).active.getLast? = some e ∨ s.cfg.eoiOrderViolation = .removeMatching

section
variable {s : State} {c : Cpu} {ns : Bool} {data : Word} {e : ActiveEntry} {n : Nat}

theorem not_eoiAllowed :
    (s.cfg.secext = true ∧ ¬ eoiPermitted s c e.id ns = true) ↔ ¬ EoiAllowed s c ns e := by
  unfold EoiAllowed eoiPermitted
  cases isSecureInt s c e.id <;> simp

theorem not_eoiInOrder :
    (¬ (s.ifc c).active.getLast? = some e ∧ s.cfg.eoiOrderViolation = .unpredictable) ↔
      ¬ EoiInOrder s c e := by
  unfold EoiInOrder
  cases s.cfg.eoiOrderViolation <;> simp

theorem activeEntry_eq_none (h : ∀ e ∈ (s.ifc c).active, e.id ≠ n) : activeEntry s c n = none :=
  List.find?_eq_none.mpr fun e he => by simpa using h e he

/-- Where no identifier is active twice, an entry is the one of its identifier (R36). -/
theorem activeEntry_eq_some (hs : ActiveNodup s) (he : e ∈ (s.ifc c).active) :
    activeEntry s c e.id = some e := by
  cases hf : activeEntry s c e.id with
  | none => exact absurd (List.find?_eq_none.mp hf e he) (by simp)
  | some e' =>
    have hid : e'.id = e.id := by simpa using List.find?_some hf
    rw [List.inj_on_of_nodup_map (hs c) (List.mem_of_find?_eq_some hf) he hid]

/-- The special identifiers complete nothing (R319). -/
theorem writeEoi_special (h : EoiSpecial s (data.extractLsb' 0 10).toNat) :
    writeEoi s c ns data = s := by
  unfold writeEoi
  obtain h3 | ⟨h2, hx⟩ := h
  · exact if_pos h3
  · simp [h2, hx]

/-- An identifier that is not active is UNPREDICTABLE (R319). -/
theorem writeEoi_inactive (hn : ¬ EoiSpecial s (data.extractLsb' 0 10).toNat)
    (h : activeEntry s c (data.extractLsb' 0 10).toNat = none) :
    writeEoi s c ns data = raise .eoiNoMatch s := by
  obtain ⟨h3, h2⟩ := not_or.mp hn
  unfold writeEoi
  simp only [h, h3, h2, if_false, Bool.and_eq_true, decide_eq_true_eq]

/-- The checks that an active identifier passes, in their order (R319). -/
theorem writeEoi_active (hn : ¬ EoiSpecial s (data.extractLsb' 0 10).toNat)
    (hid : e.id = (data.extractLsb' 0 10).toNat) (h : activeEntry s c e.id = some e) :
    ∃ why, writeEoi s c ns data =
      if EoiCpuidFits s e (data.extractLsb' 10 3).toNat then
        if EoiAllowed s c ns e then
          if EoiInOrder s c e then deactivate s c e.id else raise .eoiOrder s
        else s
      else raise why s := by
  rw [← hid] at hn
  obtain ⟨h3, h2⟩ := not_or.mp hn
  unfold writeEoi
  simp only [← hid, h, h3, if_false, Bool.and_eq_true, decide_eq_true_eq, h2, not_eoiAllowed,
    not_eoiInOrder, ite_not, Bool.not_eq_true', ← Bool.not_eq_true]
  by_cases hsgi : e.id < 16 ∧ ncpu s.cfg ≠ 1
  · refine ⟨.eoiCpuid, ?_⟩
    simp only [EoiCpuidFits, hsgi, true_and, and_self, if_true, not_true, false_and, if_false,
      ite_not, ne_eq, not_false_eq_true]
  · refine ⟨.eoiSbz, ?_⟩
    simp only [EoiCpuidFits, hsgi, false_and, if_false, not_false_eq_true, true_and, ite_not, ne_eq]

/-- Returning from an interrupt changes the interfaces alone (R433). -/
theorem deactivate_frame (s : State) (c : Cpu) (n : Nat) :
    deactivate s c n = { s with gic := { s.gic with ifcs := (deactivate s c n).gic.ifcs } } := by
  unfold deactivate
  split <;> rfl

/-- An interface after returning from an interrupt (R433): the active list and the window apart, it
is as before. -/
theorem deactivate_ifc (s : State) (c d : Cpu) (n : Nat) :
    (deactivate s c n).ifc d = { s.ifc d with
      active := ((deactivate s c n).ifc d).active
      ackWindow := if 32 ≤ n ∧ s.cfg.spiDoubleAck = .allowed then
        putBit (s.ifc d).ackWindow (slot d n) false else (s.ifc d).ackWindow } := by
  unfold deactivate
  simp only [hasWindow_iff]
  by_cases hw : 32 ≤ n ∧ s.cfg.spiDoubleAck = .allowed
  · simp only [if_pos hw, closeAckWindow, setAckWindow_ifc, State.withIfc_ifc]
    by_cases hd : d = c
    · subst hd
      simp only [if_true]
    · simp only [if_neg hd]
  · simp only [if_neg hw, State.withIfc_ifc]
    by_cases hd : d = c
    · subst hd
      simp only [if_true]
    · simp only [if_neg hd]

/-- The double-acknowledge windows after returning from an interrupt (R433). -/
theorem deactivate_window (s : State) (c d : Cpu) (n k : Nat) :
    ((deactivate s c n).ifc d).ackWindow.getLsbD k = ((s.ifc d).ackWindow.getLsbD k &&
      !decide (32 ≤ n ∧ s.cfg.spiDoubleAck = .allowed ∧ k = slot d n)) := by
  rw [deactivate_ifc]
  simp only [← and_assoc]
  by_cases hw : 32 ≤ n ∧ s.cfg.spiDoubleAck = .allowed
  · simp only [hw, and_self, if_true, getLsbD_putBit_false, true_and]
  · simp only [hw, if_false, false_and, decide_false, Bool.not_false, Bool.and_true]

end

/-- Settles O38: the checks of R319 in their order, and what is left when all are passed. -/
theorem endOfInterrupt : Obligations.EndOfInterrupt := by
  intro s a data h hnodup c n cpuid
  have hexec : exec (.wrIcceoir a data) s = .next (writeEoi s c a.ns data) := h.write
  rw [hexec]
  refine ⟨fun hspecial => congrArg _ (writeEoi_special hspecial), fun hn => ⟨fun hnone => ?_, ?_⟩⟩
  · rw [writeEoi_inactive hn (activeEntry_eq_none hnone)]
    exact ⟨_, rfl, raise_unpred _ s⟩
  intro e he hid cpuidOk permitted inOrder
  obtain ⟨why, hw⟩ := writeEoi_active (ns := a.ns) hn hid (activeEntry_eq_some hnodup he)
  have hfits : cpuidOk = EoiCpuidFits s e cpuid := by simp only [cpuidOk, EoiCpuidFits, hid]
  have hperm : permitted = EoiAllowed s c a.ns e := by simp only [permitted, EoiAllowed, hid]
  rw [hw, hfits, hperm]
  refine ⟨fun hc => ?_, fun hc hp => ?_, fun hc hp ho => ?_, fun hc hp ho => ?_⟩
  · rw [if_neg hc]
    exact ⟨_, rfl, raise_unpred why s⟩
  · rw [if_pos hc, if_neg hp]
  · rw [if_pos hc, if_pos hp, if_neg ho]
    exact ⟨_, rfl, raise_unpred _ s⟩
  · rw [if_pos hc, if_pos hp, if_pos ho, hid]
    refine ⟨_, rfl, deactivate_frame s c n, fun d => ?_, fun x => ?_, ?_, fun d hd => ?_,
      fun d k => deactivate_window s c d n k⟩
    · rw [deactivate_ifc]
    · simp only [deactivate_active, if_true, List.mem_filter, decide_eq_true_eq]
    · simp only [deactivate_active, if_true]
      exact List.filter_sublist
    · rw [deactivate_active, if_neg hd]

end Sys2Proof.Machine
end

section
/-! SUPPORT. The input events, the internal steps, the output pins and the delayed writes (R380 to
R391): the statements about inputs and outputs, settled. -/

namespace Sys2Proof.Machine

/-! ## The step of an event. -/

/-- The step of a machine whose oldest waiting operation is no access carries out that event (R94). -/
theorem step_event {s : State} {x : Input} {rest : List Input} (hq : s.inputs = x :: rest)
    (hword : ∀ aw data, x ≠ .access aw data) (hmem : ∀ m, x ≠ .mem m) :
    step s = event x { s with inputs := rest } := by
  cases x with
  | access aw data => exact absurd rfl (hword aw data)
  | mem m => exact absurd rfl (hmem m)
  | _ => simp only [step, takeInput, hq]

/-! ## The peripheral interrupt lines. -/

theorem getLsbD_putBit_true {w i : Nat} (b : BitVec w) (hi : i < w) (k : Nat) :
    (putBit b i true).getLsbD k = (b.getLsbD k || decide (k = i)) := by
  rw [getLsbD_putBit]
  by_cases hk : k = i
  · simp [hk, hi]
  · simp [hk]

theorem hasLine_of_implemented {cfg : Config} {c : Cpu} {n : Nat} (hn : 16 ≤ n)
    (h : implemented cfg c n = true) : hasLine cfg c n = true := by
  rw [hasLine, h, decide_eq_true hn]
  rfl

section
variable {s : State} {c : Cpu} {n : Nat} {rest : List Input}

/-- A rising line: the latch is set with it if the interrupt is edge-triggered and the Distributor is
enabled for it (R381). -/
theorem lineRise_eq (hs : s.unpred = false) (hlow : lineOf s c n = false) :
    lineRise s c n = { s with
      line := putBit s.line (slot c n) true
      gic := { s.gic with
        latch := if edgeOf s c n && fwdEn s c n then putBit s.gic.latch (slot c n) true
          else s.gic.latch } } := by
  unfold lineRise
  rw [hlow, if_neg Bool.false_ne_true]
  simp only
  rw [unlessUnpred_eq (by exact hs)]
  -- The trigger mode and the Distributor enable do not depend on the line.
  change (if edgeOf s c n && fwdEn s c n then _ else _) = _
  split <;> rfl

/-- A falling line changes the line alone (R382). -/
theorem lineFall_eq (hs : s.unpred = false) (hhigh : lineOf s c n = true) :
    lineFall s c n = { s with line := putBit s.line (slot c n) false } := by
  unfold lineFall
  rw [if_pos hhigh]
  exact unlessUnpred_eq hs

theorem step_lineRise (hline : hasLine s.cfg c n = true) (hq : s.inputs = .lineRise c n :: rest) :
    step s = .next (lineRise { s with inputs := rest } c n) := by
  rw [step_event hq nofun nofun]
  exact if_pos hline

theorem step_lineFall (hline : hasLine s.cfg c n = true) (hq : s.inputs = .lineFall c n :: rest) :
    step s = .next (lineFall { s with inputs := rest } c n) := by
  rw [step_event hq nofun nofun]
  exact if_pos hline

end

/-- Settles O46: the two events put one bit of the lines, and the rise perhaps that of the latches. -/
theorem lineEvents : Obligations.LineEvents := by
  intro s c n rest hs hn himp
  have hline := hasLine_of_implemented hn himp
  have hslot : slot c n < 1244 := slot_lt c (implemented_lt himp)
  refine ⟨fun hq hlow => ?_, fun hq hhigh => ?_⟩
  · rw [step_lineRise hline hq, lineRise_eq (s := { s with inputs := rest }) hs hlow]
    refine ⟨_, _, rfl, getLsbD_putBit_true s.line hslot, fun k => ?_⟩
    change (if edgeOf s c n && fwdEn s c n then putBit s.gic.latch (slot c n) true
      else s.gic.latch).getLsbD k = _
    cases hedge : edgeOf s c n && fwdEn s c n
    · simp [Bool.and_assoc, hedge]
    · simp [Bool.and_assoc, hedge, getLsbD_putBit_true s.gic.latch hslot]
  · rw [step_lineFall hline hq, lineFall_eq (s := { s with inputs := rest }) hs hhigh]
    exact ⟨_, rfl, getLsbD_putBit_false s.line (slot c n)⟩

/-! ## CFGSDISABLE and the legacy inputs. -/

theorem getLsbD_putBit_cpu (b : BitVec 8) (c : Cpu) (v : Bool) {k : Nat} (hk : k < 8) :
    (putBit b c.val v).getLsbD k = if k = c.val then v else b.getLsbD k := by
  rw [getLsbD_putBit]
  simp only [hk, and_true]

section
variable {s : State} {c : Cpu} {v : Bool} {rest : List Input}

theorem step_cfgsdisableSet (hs : s.unpred = false) (hq : s.inputs = .cfgsdisableSet v :: rest) :
    step s = .next { s with inputs := rest, cfgsdisable := v } := by
  rw [step_event hq nofun nofun]
  exact congrArg Host.Outcome.next (unlessUnpred_eq hs)

/-- LEGACY_IRQ(c,v) puts the level of interface c, if it has the input (R384). -/
theorem step_legacyIrq (hs : s.unpred = false) (hq : s.inputs = .legacyIrq c v :: rest) :
    step s = if cpuExists s.cfg c && passThrough s.cfg c then
        .next { s with inputs := rest, legacyIrq := putBit s.legacyIrq c.val v }
      else .refused .noSuchInput := by
  rw [step_event hq nofun nofun]
  simp only [event, legacyIrqSet, unlessUnpred_eq, hs]

/-- LEGACY_FIQ(c,v) puts the level of interface c, if it has the input (R384). -/
theorem step_legacyFiq (hs : s.unpred = false) (hq : s.inputs = .legacyFiq c v :: rest) :
    step s = if cpuExists s.cfg c && passThrough s.cfg c && s.cfg.secext then
        .next { s with inputs := rest, legacyFiq := putBit s.legacyFiq c.val v }
      else .refused .noSuchInput := by
  rw [step_event hq nofun nofun]
  simp only [event, legacyFiqSet, unlessUnpred_eq, hs]

end

/-- Settles O47: each event puts the one level it names. -/
theorem systemInputs : Obligations.SystemInputs := by
  intro s c v rest hs
  refine ⟨step_cfgsdisableSet hs, fun hq => ?_, fun hq => ?_⟩
  · rw [step_legacyIrq hs hq]
    refine ⟨fun hexists hpass => ?_, fun habsent => ⟨_, if_neg ?_⟩⟩
    · exact ⟨_, if_pos (by simp [hexists, hpass]), fun k => getLsbD_putBit_cpu s.legacyIrq c v⟩
    · obtain h | h := habsent <;> simp [h]
  · rw [step_legacyFiq hs hq]
    refine ⟨fun hexists hpass hsec => ?_, fun habsent => ⟨_, if_neg ?_⟩⟩
    · exact ⟨_, if_pos (by simp [hexists, hpass, hsec]),
        fun k => getLsbD_putBit_cpu s.legacyFiq c v⟩
    · obtain h | h | h := habsent <;> simp [h]

/-! ## EVALUATE. -/

section
variable (s : State) (c : Cpu)

/-- A request of interrupt n is made on FIQ(c): the interrupt is Secure, and FIQEn is 1 (R428). -/
abbrev RoutedToFiq (n : Nat) : Prop :=
  s.cfg.secext = true ∧ isSecureInt s c n = true ∧ (s.ifc c).fiqEn = true

theorem nextOutputs_none (hp : hppi s c = none) : nextOutputs s c = (false, false) := by
  unfold nextOutputs
  simp only [hp]

/-- The outputs by the highest priority pending interrupt, where it is signalable (R428). -/
theorem nextOutputs_some {p : IntRef} (hp : hppi s c = some p) :
    nextOutputs s c = (decide (signalable s c p.id = true ∧ ¬ RoutedToFiq s c p.id),
      decide (signalable s c p.id = true ∧ RoutedToFiq s c p.id)) := by
  unfold nextOutputs RoutedToFiq
  rw [hp]
  simp only [Bool.and_eq_true, and_assoc]
  by_cases hsig : signalable s c p.id = true
  · by_cases hfiq : s.cfg.secext = true ∧ isSecureInt s c p.id = true ∧ (s.ifc c).fiqEn = true
    · simp [hsig, hfiq]
    · simp [hsig, hfiq]
  · simp [hsig]

/-- IRQ is asserted for a signalable highest priority pending interrupt not routed to FIQ (R428). -/
theorem nextOutputs_irq : (nextOutputs s c).1 = true ↔
    ∃ p, hppi s c = some p ∧ signalable s c p.id = true ∧ ¬ RoutedToFiq s c p.id := by
  obtain hp | ⟨p, hp⟩ := Option.eq_none_or_eq_some (hppi s c)
  · simp only [nextOutputs_none s c hp, hp, reduceCtorEq, Bool.false_eq_true, false_and,
      exists_false]
  · simp only [nextOutputs_some s c hp, hp, decide_eq_true_eq, Option.some.injEq, exists_eq_left']

/-- FIQ is asserted for a signalable highest priority pending interrupt routed to it (R428). -/
theorem nextOutputs_fiq : (nextOutputs s c).2 = true ↔
    ∃ p, hppi s c = some p ∧ signalable s c p.id = true ∧ RoutedToFiq s c p.id := by
  obtain hp | ⟨p, hp⟩ := Option.eq_none_or_eq_some (hppi s c)
  · simp only [nextOutputs_none s c hp, hp, reduceCtorEq, Bool.false_eq_true, false_and,
      exists_false]
  · simp only [nextOutputs_some s c hp, hp, decide_eq_true_eq, Option.some.injEq, exists_eq_left']

/-- An evaluation writes IRQ(c) and, where it exists, FIQ(c) (R385). -/
theorem evaluate_eq : evaluate s c = (s.withIfc c { s.ifc c with
    irq := (nextOutputs s c).1
    fiq := if s.cfg.secext then (nextOutputs s c).2 else (s.ifc c).fiq }).drawn := by
  unfold evaluate
  simp only
  split <;> rfl

/-- The outputs do not depend on the operations still to come. -/
theorem nextOutputs_inputs (rest : List Input) :
    nextOutputs { s with inputs := rest } c = nextOutputs s c := (rfl)

end

theorem step_evaluate {s : State} {c : Cpu} {rest : List Input} (hs : s.unpred = false)
    (hc : cpuExists s.cfg c = true) (hq : s.inputs = .evaluate c :: rest) :
    step s = .next (evaluate { s with inputs := rest } c) := by
  rw [step_event hq nofun nofun]
  exact (if_pos hc).trans (congrArg Host.Outcome.next (unlessUnpred_eq hs))

/-- Settles O49: the two outputs are those of Next(c), FIQ only with the Security Extensions. -/
theorem evaluateOutputs : Obligations.EvaluateOutputs := by
  intro s c rest hs hc hq
  rw [step_evaluate hs hc hq, evaluate_eq, nextOutputs_inputs]
  refine ⟨_, _, rfl, nextOutputs_irq s c, fun hx => ?_, fun hx => ?_⟩
  · have hfiq := nextOutputs_fiq s c
    simp only [RoutedToFiq, hx, true_and] at hfiq
    simpa only [hx, if_true] using hfiq
  · simp only [hx, Bool.false_eq_true, if_false]
    rfl

/-! ## The output pins. -/

section
variable {s : State} {c : Cpu}

/-- The rows of Table 4-26 in which the GIC drives the IRQ pin. -/
theorem irqDriven_iff : irqDriven s c = true ↔
    if s.cfg.secext = true then
      ((s.ifc c).fiqEn, (s.ifc c).enableS, (s.ifc c).enableNS) ∈
        [(false, false, true), (false, true, false), (false, true, true), (true, false, true),
          (true, true, true)]
    else (s.ifc c).enableS = true := by
  have hrows : ∀ fiqEn enableS enableNS : Bool, (enableNS || (enableS && !fiqEn)) = true ↔
      (fiqEn, enableS, enableNS) ∈ [(false, false, true), (false, true, false),
        (false, true, true), (true, false, true), (true, true, true)] := by decide
  unfold irqDriven
  split
  · exact hrows _ _ _
  · exact Iff.rfl

/-- The rows of Table 4-26 in which the GIC drives the FIQ pin. -/
theorem fiqDriven_iff (hx : s.cfg.secext = true) :
    fiqDriven s c = true ↔ ((s.ifc c).fiqEn, (s.ifc c).enableS) = (true, true) := by
  simp only [fiqDriven, hx, Bool.true_and, Bool.and_eq_true, Prod.mk.injEq]

/-- The IRQ pin is the legacy input exactly with pass-through where the GIC does not drive it (R386). -/
theorem irqPin_eq : irqPin s c = if passThrough s.cfg c = true ∧ ¬ irqDriven s c = true then
    s.legacyIrq.getLsbD c.val else (s.ifc c).irq := by
  simp only [irqPin, Bool.and_eq_true, Bool.not_eq_true', Bool.not_eq_true]

/-- The FIQ pin is the legacy input exactly with pass-through where the GIC does not drive it (R386). -/
theorem fiqPin_eq (hx : s.cfg.secext = true) :
    fiqPin s c = if passThrough s.cfg c = true ∧ ¬ fiqDriven s c = true then
      s.legacyFiq.getLsbD c.val else (s.ifc c).fiq := by
  simp only [fiqPin, hx, Bool.not_true, Bool.false_eq_true, if_false, Bool.and_eq_true,
    Bool.not_eq_true', Bool.not_eq_true]

end

/-- Settles O50: the driven pins are the rows of Table 4-26. -/
theorem outputPins : Obligations.OutputPins := by
  intro s c i irqByGic fiqByGic
  have hirq : irqDriven s c = true ↔ irqByGic := irqDriven_iff
  have hnotLegacy : ∀ {driven : Prop}, passThrough s.cfg c = false ∨ driven →
      ¬ (passThrough s.cfg c = true ∧ ¬ driven) := by
    rintro driven (h | h) ⟨hpass, hdriven⟩
    · exact absurd (hpass.symm.trans h) (by decide)
    · exact hdriven h
  refine ⟨fun h => ?_, fun hpass h => ?_, fun hx h => ?_, fun hx hpass h => ?_, fun hx => ?_⟩
  · exact irqPin_eq.trans (if_neg (hnotLegacy (h.imp_right hirq.mpr)))
  · exact irqPin_eq.trans (if_pos ⟨hpass, mt hirq.mp h⟩)
  · exact (fiqPin_eq hx).trans (if_neg (hnotLegacy (h.imp_right (fiqDriven_iff hx).mpr)))
  · exact (fiqPin_eq hx).trans (if_pos ⟨hpass, mt (fiqDriven_iff hx).mp h⟩)
  · rw [fiqPin, hx]
    rfl

/-! ## CLOSE_ACK_WINDOW. -/

/-- CLOSE_ACK_WINDOW(n) of an SPI that has windows closes them (R388). -/
theorem step_closeAckWindow {s : State} {n : Nat} {rest : List Input} (hs : s.unpred = false)
    (hd : s.cfg.spiDoubleAck = .allowed) (hn : 32 ≤ n)
    (hq : s.inputs = .closeAckWindow n :: rest) :
    step s = .next (closeAckWindow { s with inputs := rest } n) := by
  rw [step_event hq nofun nofun]
  refine congrArg Host.Outcome.next ((unlessUnpred_eq (s := { s with inputs := rest }) hs).trans ?_)
  exact if_pos (hasWindow_iff.mpr ⟨hn, hd⟩)

/-- Settles O51: the bit of n is cleared in the window of every interface. -/
theorem closeAckWindow_empties_window : Obligations.CloseAckWindow := by
  intro s n rest hs hd hn _ hq
  refine ⟨_, step_closeAckWindow hs hd hn hq, rfl, fun d => ?_⟩
  rw [closeAckWindow, setAckWindow_ifc]
  exact ⟨rfl, getLsbD_putBit_false _ _⟩

/-! ## Delayed writes. -/

/-- Every Distributor write joins the queue or is performed, once its requester is found to exist
(R391). -/
theorem exec_distWrite {i : Instr} (s : State) (hw : (accessInfo i).write = true)
    (hd : (accessInfo i).ifc = none) : ∃ a : DistArgs, a.req = (accessInfo i).req ∧
      exec i s = writeDist a i s (performWrite i s) := by
  obtain ⟨a, bytes, e, hi, -⟩ | ⟨a, bytes, e, hi, he, -⟩ | ⟨a, write, e, hi, -⟩ := exec_course i s
  · rw [hi] at hw; cases hw
  · exact ⟨a, by rw [hi], he⟩
  · rw [hi] at hd; cases hd

section
variable (s : State) (l : DistWriteLatency)

theorem setEnableBit_withLatency (ns : Bool) (data : Word) :
    setEnableBit ns data (s.withLatency l) = (setEnableBit ns data s).withLatency l := by
  unfold setEnableBit
  change (if s.cfg.secext && ns then _ else if lockActive s then _ else _) = _
  split
  · rfl
  split <;> rfl

theorem writeIcddcr_withLatency (ns : Bool) (data : Word) :
    writeIcddcr ns data (s.withLatency l) = (writeIcddcr ns data s).withLatency l := by
  unfold writeIcddcr
  rw [setEnableBit_withLatency]
  change (if s.cfg.edgeHighAtEnable = .edge then _ else _) = _
  simp only
  split <;> rfl

theorem writeIcdisr_withLatency (req : Option Cpu) (ns : Bool) (m : Nat) (data : Word) :
    writeIcdisr req ns m data (s.withLatency l) = (writeIcdisr req ns m data s).withLatency l := by
  unfold writeIcdisr
  change (if !s.cfg.secext || ns then _
    else if (List.range 32).any (securityConflict s req m data) then _ else _) = _
  split
  · rfl
  split <;> rfl

theorem writeIcdicfr_withLatency (req : Option Cpu) (ns : Bool) (m : Nat) (data : Word) :
    writeIcdicfr req ns m data (s.withLatency l) = (writeIcdicfr req ns m data s).withLatency l := by
  unfold writeIcdicfr
  change (if (List.range 16).any (triggerConflict s req ns m data) then _ else _) = _
  split <;> rfl

theorem writeIcdsgir_withLatency (req : Option Cpu) (ns : Bool) (data : Word) :
    writeIcdsgir req ns data (s.withLatency l) = (writeIcdsgir req ns data s).withLatency l := by
  unfold writeIcdsgir
  cases req with
  | none => rfl
  | some src =>
    simp only
    split
    · rfl
    split <;> rfl

/-- The effect of a Distributor write does not depend on the write latency (R391). -/
theorem performWrite_withLatency (i : Instr) :
    performWrite i (s.withLatency l) = (performWrite i s).withLatency l := by
  cases i
  case wrIcddcr a data => exact sized_withLatency (writeIcddcr_withLatency s l a.ns data)
  case wrIcdisr m a data =>
    exact sized_withLatency (writeIcdisr_withLatency s l (sourceId s.cfg a.req) a.ns m.toNat data)
  case wrIcdicfr m a data =>
    exact sized_withLatency (writeIcdicfr_withLatency s l (sourceId s.cfg a.req) a.ns m.toNat data)
  case wrIcdsgir a data =>
    exact sized_withLatency (writeIcdsgir_withLatency s l (sourceId s.cfg a.req) a.ns data)
  -- The writes that change one variable, whatever the state, and the ignored ones.
  case wrIcdiser | wrIcdicer | wrIcdispr | wrIcdicpr | wrIcdipr | wrIcdiptrPriv | wrIcdiptrSpi |
      wrIcdictr | wrIcdiidr | wrRes00C | wrIcdabr | wrRes380 | wrRes7FC | wrResBFC | wrImpD00 |
      wrResE00 | wrIcpidr4 | wrIcpidr5 | wrIcpidr6 | wrIcpidr7 | wrIcpidr0 | wrIcpidr1 | wrIcpidr2 |
      wrIcpidr3 | wrIccidr0 | wrIccidr1 | wrIccidr2 | wrIccidr3 | wrResF04 =>
    exact sized_withLatency rfl
  -- Reads, and the CPU interface accesses, which are never queued.
  all_goals rfl

end

theorem writesDelayed_iff {cfg : Config} :
    writesDelayed cfg = true ↔ cfg.distWriteLatency = .delayed := decide_eq_true_iff

theorem step_applyWrite {s : State} {rest : List Input} (hs : s.unpred = false)
    (hq : s.inputs = .applyWrite :: rest) :
    step s = .next (applyWrite { s with inputs := rest }) := by
  rw [step_event hq nofun nofun]
  exact congrArg Host.Outcome.next (unlessUnpred_eq hs)

/-- Settles O52: a write is queued or performed, and APPLY_WRITE performs the oldest one. -/
theorem delayedWrites : Obligations.DelayedWrites := by
  refine ⟨fun i s hw hd hs hacc => ?_, fun i s l => performWrite_withLatency s l i,
    fun s i q rest hs hq hwq => ?_, fun s rest hs hq hwq => ?_⟩
  · obtain ⟨a, hreq, he⟩ := exec_distWrite s hw hd
    have hr : requesterExists s.cfg a.req = true := hreq ▸ hacc.1
    exact ⟨fun hdelayed => he.trans (writeDist_delayed hr hs (writesDelayed_iff.mpr hdelayed)),
      fun himm => he.trans (writeDist_eq hr hs (Immediate.notDelayed himm))⟩
  · rw [step_applyWrite hs hq]
    simp only [applyWrite, hwq]
    rfl
  · rw [step_applyWrite hs hq]
    simp only [applyWrite, hwq]

end Sys2Proof.Machine
end

section
/-! SUPPORT. Which steps make an interrupt active or inactive, and an SGI pending or not (R391, R412 to
R421): the two-state statements about the interrupt states, settled. -/

namespace Sys2Proof.Machine

/-! ## What is active: only a read of ICCIAR and a write of ICCEOIR change it. -/

/-- The same interrupts are active on every interface in two states. -/
def SameActive (s t : State) : Prop := ∀ c n, act t c n = act s c n

theorem SameActive.refl (s : State) : SameActive s s := fun _ _ => rfl

theorem SameActive.trans {s t u : State} (h : SameActive s t) (h' : SameActive t u) :
    SameActive s u := fun c n => (h' c n).trans (h c n)

theorem SameActive.of_active_eq {s t : State} (h : ∀ c, (t.ifc c).active = (s.ifc c).active) :
    SameActive s t := fun c => act_eq_of_active_eq (h c)

theorem sameActive_setAckWindow (s : State) (n : Nat) (w : Cpu → Bool) :
    SameActive s (setAckWindow s n w) := .of_active_eq (setAckWindow_active s n w)

theorem sameActive_closeAllWindows (s : State) : SameActive s (closeAllWindows s) :=
  .of_active_eq fun c => by simp [closeAllWindows]

/-- An evaluation writes the outputs only (R385). -/
theorem sameActive_evaluate (s : State) (c : Cpu) : SameActive s (evaluate s c) := by
  refine .of_active_eq fun d => ?_
  rw [evaluate_eq, State.drawn_ifc, State.withIfc_ifc]
  split
  · next hd => rw [hd]
  · rfl

theorem sameActive_evaluateAll (s : State) : SameActive s (evaluateAll s) :=
  evaluateAll_induction (fun u c h => h.trans (sameActive_evaluate u c)) (.refl s)

/-- A Distributor write changes nothing active (R391). -/
theorem WriteEffect.sameActive {s t : State} {i : Instr} (he : WriteEffect s i t)
    (ht : t.unpred = false) : SameActive s t :=
  .of_active_eq fun c => congrArg _ (he.ifc_eq ht c)

theorem sameActive_applyWrite {s : State} (ht : (applyWrite s).unpred = false) :
    SameActive s (applyWrite s) := by
  obtain hs | hu | ⟨i, rest, -, he⟩ := applyWrite_cases s
  · rw [hs]; exact .refl s
  · exact absurd (hu.symm.trans ht) (by decide)
  · exact he.sameActive ht

/-- No event but RESET changes what is active. -/
theorem EventEffect.sameActive {s t : State} {x : Input} (he : EventEffect s x t)
    (ht : t.unpred = false) : SameActive s t := by
  cases he with
  | unchanged | inputs | edge => exact .refl s
  | evaluated c => exact sameActive_evaluate s c
  | windowClosed n _ _ => exact sameActive_setAckWindow s n _
  | applied => exact sameActive_applyWrite ht

section
variable {s t : State} {i : Instr} {c : Cpu} {n : Nat}

/-- A read of ICCIAR makes inactive nothing, and active only on the interface read (R431). -/
theorem act_readIar (s : State) (c : Cpu) (ns : Bool) (d : Cpu) (n : Nat) :
    act (readIar s c ns) d n = act s d n ∨ (d = c ∧ act (readIar s c ns) d n = true) := by
  have hclose := act_eq_of_active_eq (closeOwnWindows_active s c d) n
  -- Each way to take an interrupt p adds p to what is active on c.
  have htaken : ∀ {u : State} {p : IntRef},
      (act u d n = true ↔ act (closeOwnWindows s c) d n = true ∨ (d = c ∧ p.id = n)) →
      act u d n = act s d n ∨ (d = c ∧ act u d n = true) := by
    intro u p hu
    by_cases hp : d = c ∧ p.id = n
    · exact .inr ⟨hp.1, hu.mpr (.inr hp)⟩
    · rw [or_iff_left hp, hclose] at hu
      exact .inl (Bool.eq_iff_iff.mpr hu)
  obtain ⟨v, he⟩ | ⟨p, v, -, he | he⟩ := readIar_cases s c ns <;> rw [he]
  · exact .inl hclose
  · exact htaken (p := p) act_pushActive
  · exact htaken (p := p) act_acknowledge

/-- Only a read of ICCIAR makes an interrupt active, and only a write of ICCEOIR inactive, among the
accesses (R418, R420, R421). -/
theorem AccessEffect.act_cases (he : AccessEffect s i t) (ht : t.unpred = false) (c : Cpu)
    (n : Nat) :
    act t c n = act s c n ∨
      (∃ a, i = .rdIcciar a ∧ a.ifc = c ∧ act t c n = true) ∨
      ∃ a d, i = .wrIcceoir a d ∧ a.ifc = c ∧ (d.extractLsb' 0 10).toNat = n ∧
        act t c n = false := by
  cases he with
  | queued | ignored | read | readDrawn => exact .inl rfl
  | performed hw => exact .inl (hw.sameActive ht c n)
  | iccicr a data => exact .inl ((writeIccicr_control a.ifc a.ns data s).act_eq c n)
  | iccpmr a data => exact .inl ((writeIccpmr_control a.ifc a.ns data s).act_eq c n)
  | iccbpr a data => exact .inl ((writeIccbpr_control a.ifc a.ns data s).act_eq c n)
  | iccabpr a data => exact .inl ((writeIccabpr_control a.ifc a.ns data s).act_eq c n)
  | icciar a _ =>
    refine (act_readIar s a.ifc a.ns c n).imp_right fun ⟨hc, hact⟩ => ?_
    exact .inl ⟨a, rfl, hc.symm, hact⟩
  | icceoir a data =>
    obtain ⟨why, hr⟩ | hs | hs := writeEoi_cases s a.ifc a.ns data
    · rw [hr] at ht; cases ht
    · rw [hs]; exact .inl rfl
    rw [hs, Bool.eq_iff_iff, act_deactivate]
    by_cases hn : c = a.ifc ∧ n = (data.extractLsb' 0 10).toNat
    · refine .inr (.inr ⟨a, data, rfl, hn.1.symm, hn.2.symm, Bool.eq_false_iff.mpr fun h => ?_⟩)
      exact (act_deactivate.mp h).2 hn
    · exact .inl (and_iff_left hn)

/-- Nothing is active after RESET (R54). -/
theorem act_resetGic (s : State) (c : Cpu) (n : Nat) : act (resetGic s) c n = false := by
  have hactive : ((resetGic s).ifc c).active = [] := congrArg _ (gicReset_ifcs s.cfg c)
  rw [act, hactive]
  rfl

/-- Everything a step that starts and ends with UNPRED clear can do to one active state. -/
theorem step_act_cases (h : step s = .next t) (hs : s.unpred = false) (ht : t.unpred = false)
    (c : Cpu) (n : Nat) :
    act t c n = act s c n ∨
      (act t c n = false ∧ ∃ rest, s.inputs = .reset :: rest) ∨
      ∃ x rest i, s.inputs = x :: rest ∧ x.instr s.cfg = some i ∧
        ((∃ a, i = .rdIcciar a ∧ a.ifc = c ∧ act t c n = true) ∨
          ∃ a d, i = .wrIcceoir a d ∧ a.ifc = c ∧ (d.extractLsb' 0 10).toNat = n ∧
            act t c n = false) := by
  obtain ⟨-, hu, heq⟩ | ⟨x, rest, hq, ⟨rfl, heq⟩ | ⟨i, hi, he⟩ | he⟩ := step_effect h hs ht
  · rw [heq]
    exact .inl (((sameActive_applyWrite hu).trans (sameActive_closeAllWindows _)).trans
      (sameActive_evaluateAll _) c n)
  · rw [heq]
    exact .inr (.inl ⟨act_resetGic _ c n, rest, hq⟩)
  · exact (he.act_cases ht c n).imp_right fun haccess => .inr ⟨x, rest, i, hq, hi, haccess⟩
  · exact .inl (he.sameActive ht c n)

end

/-- Settles O56: the cases of `step_act_cases` in which the active state is not what it was. -/
theorem activeOnlyByAcknowledge : Obligations.ActiveOnlyByAcknowledge := by
  intro s t hs hstep ht c n
  obtain hsame | ⟨hoff, hreset⟩ | ⟨x, rest, i, hq, hi, hread | hwrite⟩ :=
    step_act_cases hstep hs ht c n
  · rw [hsame]
    exact ⟨fun h h' => absurd (h.symm.trans h') (by decide),
      fun h h' => absurd (h.symm.trans h') (by decide)⟩
  · exact ⟨fun _ h => absurd (h.symm.trans hoff) (by decide), fun _ _ => .inl hreset⟩
  · obtain ⟨a, rfl, hc, hon⟩ := hread
    exact ⟨fun _ _ => ⟨x, rest, a, hq, hi, hc⟩, fun _ h => absurd (h.symm.trans hon) (by decide)⟩
  · obtain ⟨a, d, rfl, hc, hn, hoff⟩ := hwrite
    exact ⟨fun _ h => absurd (h.symm.trans hoff) (by decide),
      fun _ _ => .inr ⟨x, rest, a, d, hq, hi, hc, hn⟩⟩

/-! ## Pending SGIs: only performing a write of ICDSGIR and a read of ICCIAR change them. -/

section
variable {s t : State} {i : Instr} {c : Cpu} {n : Nat} {src : Cpu}

/-- The pending SGIs are those of SGIP, and the parameters say which sources exist (R35). -/
theorem sgipOf_eq (hcfg : t.cfg = s.cfg) (hsgip : t.gic.sgip = s.gic.sgip) :
    sgipOf t c n src = sgipOf s c n src := by
  rw [sgipOf, sgipOf, hcfg, hsgip]

/-- A write of ICDSGIR that raises nothing ends no pending SGI (R281). -/
theorem sgipOf_writeIcdsgir {req : Option Cpu} {ns : Bool} {data : Word}
    (ht : (writeIcdsgir req ns data s).unpred = false) (h : sgipOf s c n src = true) :
    sgipOf (writeIcdsgir req ns data s) c n src = true := by
  cases req with
  | none => exact h
  | some sender =>
    by_cases hr : data.extractLsb' 4 11 ≠ 0#11 ∨ (data.extractLsb' 24 2).toNat = 3
    · obtain ⟨why, hw⟩ := writeIcdsgir_raises (s := s) (ns := ns) (src := sender) hr
      rw [hw] at ht; cases ht
    · obtain ⟨hsbz, hfilter⟩ := not_or.mp hr
      obtain ⟨b, hw, hb⟩ :=
        writeIcdsgir_sends (s := s) (ns := ns) (src := sender) (not_not.mp hsbz) hfilter
      simp only [sgipOf, Bool.and_eq_true, decide_eq_true_eq] at h
      obtain ⟨⟨hn, hsrc⟩, hbit⟩ := h
      rw [hw]
      simp only [sgipOf, Bool.and_eq_true, decide_eq_true_eq]
      exact ⟨⟨hn, hsrc⟩, (hb c n src hn).mpr (.inl hbit)⟩

/-- Of the Distributor writes only that of ICDSGIR changes a pending SGI, which it makes pending
(R412). -/
theorem WriteEffect.sgip_cases (he : WriteEffect s i t) (ht : t.unpred = false) (c : Cpu) (n : Nat)
    (src : Cpu) :
    sgipOf t c n src = sgipOf s c n src ∨
      ((∃ a d, i = .wrIcdsgir a d) ∧ sgipOf t c n src = true) := by
  cases he with
  | ignored | icdiser | icdicer | icdispr | icdicpr | icdipr | icdiptrPriv | icdiptrSpi =>
    exact .inl rfl
  | icddcr a data =>
    have hset : sgipOf (setEnableBit a.ns data s) c n src = sgipOf s c n src := by
      obtain he | ⟨v, he⟩ | ⟨v, he⟩ := setEnableBit_cases a.ns data s <;> rw [he] <;> rfl
    unfold writeIcddcr
    simp only
    split
    · exact .inl hset
    · exact .inl hset
  | icdisr m a data =>
    obtain ⟨v, hv⟩ := writeIcdisr_of_unpred ht
    rw [hv]
    exact .inl rfl
  | icdicfr m a data =>
    obtain ⟨v, hv⟩ := writeIcdicfr_of_unpred ht
    rw [hv]
    exact .inl rfl
  | icdsgir a data =>
    cases hold : sgipOf s c n src with
    | true => exact .inl (sgipOf_writeIcdsgir ht hold)
    | false =>
      rw [← Bool.not_eq_true]
      exact (em _).symm.imp_right fun hnew => ⟨⟨a, data, rfl⟩, hnew⟩

/-- A read of ICCIAR makes no SGI pending, and clears one of the interface read only (R431). -/
theorem sgipOf_readIar (s : State) (d : Cpu) (ns : Bool) (c : Cpu) (n : Nat) (src : Cpu) :
    sgipOf (readIar s d ns) c n src = sgipOf s c n src ∨
      (d = c ∧ sgipOf (readIar s d ns) c n src = false) := by
  obtain ⟨v, he⟩ | ⟨p, v, -, he | he⟩ := readIar_cases s d ns <;> rw [he]
  · exact .inl rfl
  · exact .inl rfl
  by_cases hslot : slot c n = slot d p.id
  · obtain ⟨rfl, hprivate⟩ := slot_inj.mp hslot
    by_cases hn : p.id < 16
    · obtain rfl : c = d := hprivate (by omega)
      have hcleared : (acknowledge (closeOwnWindows s c) c p).gic.sgip =
          putBit s.gic.sgip (sgipIndex c p.id p.src) false := by
        rw [acknowledge_sgip, if_pos hn]; rfl
      rw [sgipOf_respond, sgipOf, sgipOf, hcleared, getLsbD_putBit_false]
      by_cases hbit : sgipIndex c p.id src = sgipIndex c p.id p.src
      · exact .inr ⟨rfl, by simp [hbit]⟩
      · exact .inl (by simp [hbit])
    · exact .inl (by simp [sgipOf, hn])
  · exact .inl ((samePending_acknowledge (s := closeOwnWindows s d) hslot).2 src)

theorem ControlWrite.sgipOf_eq (h : ControlWrite c s t) (d : Cpu) (n : Nat) (src : Cpu) :
    sgipOf t d n src = sgipOf s d n src := by
  obtain ⟨i, rfl, -⟩ := h
  rfl

/-- Of the accesses only a write of ICDSGIR makes an SGI pending, and only a read of ICCIAR ends that
(R412, R414, R416). -/
theorem AccessEffect.sgip_cases (he : AccessEffect s i t) (ht : t.unpred = false) (c : Cpu) (n : Nat)
    (src : Cpu) :
    sgipOf t c n src = sgipOf s c n src ∨
      ((∃ a d, i = .wrIcdsgir a d) ∧ sgipOf t c n src = true) ∨
      ∃ a, i = .rdIcciar a ∧ a.ifc = c ∧ sgipOf t c n src = false := by
  cases he with
  | queued | ignored | read | readDrawn => exact .inl rfl
  | performed hw => exact (hw.sgip_cases ht c n src).imp_right .inl
  | iccicr a data => exact .inl ((writeIccicr_control a.ifc a.ns data s).sgipOf_eq c n src)
  | iccpmr a data => exact .inl ((writeIccpmr_control a.ifc a.ns data s).sgipOf_eq c n src)
  | iccbpr a data => exact .inl ((writeIccbpr_control a.ifc a.ns data s).sgipOf_eq c n src)
  | iccabpr a data => exact .inl ((writeIccabpr_control a.ifc a.ns data s).sgipOf_eq c n src)
  | icciar a _ =>
    refine (sgipOf_readIar s a.ifc a.ns c n src).imp_right fun ⟨hc, hoff⟩ => ?_
    exact .inr ⟨a, rfl, hc, hoff⟩
  | icceoir a data =>
    obtain ⟨why, hr⟩ | hs | hs := writeEoi_cases s a.ifc a.ns data
    · rw [hr] at ht; cases ht
    · rw [hs]; exact .inl rfl
    · rw [hs]; exact .inl (sgipOf_eq (deactivate_cfg s _ _) (deactivate_sgip s _ _))

/-- APPLY_WRITE makes an SGI pending only by a write of ICDSGIR, the oldest of the queue (R391). -/
theorem sgipOf_applyWrite (ht : (applyWrite s).unpred = false) (c : Cpu) (n : Nat) (src : Cpu) :
    sgipOf (applyWrite s) c n src = sgipOf s c n src ∨
      ((∃ a d q, s.gic.wq = .wrIcdsgir a d :: q) ∧ sgipOf (applyWrite s) c n src = true) := by
  obtain hs | hu | ⟨i, rest, hq, he⟩ := applyWrite_cases s
  · rw [hs]; exact .inl rfl
  · exact absurd (hu.symm.trans ht) (by decide)
  · refine (he.sgip_cases ht c n src).imp_right ?_
    rintro ⟨⟨a, d, rfl⟩, hon⟩
    exact ⟨⟨a, d, rest, hq⟩, hon⟩

theorem sgipOf_evaluateAll (s : State) (c : Cpu) (n : Nat) (src : Cpu) :
    sgipOf (evaluateAll s) c n src = sgipOf s c n src := by
  refine evaluateAll_induction (P := fun u => sgipOf u c n src = sgipOf s c n src)
    (fun u d h => ?_) rfl
  rw [evaluate_eq]
  exact h

/-- Of the events only APPLY_WRITE and RESET change a pending SGI (R391, R387). -/
theorem EventEffect.sgip_cases {x : Input} (he : EventEffect s x t) (ht : t.unpred = false)
    (c : Cpu) (n : Nat) (src : Cpu) :
    sgipOf t c n src = sgipOf s c n src ∨
      (x = .applyWrite ∧ (∃ a d q, s.gic.wq = .wrIcdsgir a d :: q) ∧ sgipOf t c n src = true) := by
  cases he with
  | unchanged | inputs | edge | windowClosed => exact .inl rfl
  | evaluated d => rw [evaluate_eq]; exact .inl rfl
  | applied => exact (sgipOf_applyWrite ht c n src).imp_right fun h => ⟨rfl, h⟩

/-- The step of a machine whose oldest waiting operation is an access, in either form, runs its
instruction (R94, R121). -/
theorem step_of_instr {x : Input} {rest : List Input} (hq : s.inputs = x :: rest)
    (hi : x.instr s.cfg = some i) : step s = exec i { s with inputs := rest } := by
  have hdecode : ∀ {aw data : Word}, (decode aw data).toOption = some i → decode aw data = .ok i := by
    intro aw data h
    cases hd : decode aw data with
    | error why => rw [hd] at h; cases h
    | ok j => rw [hd] at h; cases h; rfl
  cases x with
  | access aw data => exact step_access hq (hdecode hi)
  | mem m =>
    obtain ⟨aw, haw, hi⟩ := Option.bind_eq_some_iff.mp hi
    exact (step_mem hq haw).trans (step_access rfl (hdecode hi))
  | _ => cases hi

/-- A Distributor write that is delayed only joins the queue (R391). -/
theorem exec_distWrite_delayed (hw : (accessInfo i).write = true) (hd : (accessInfo i).ifc = none)
    (hs : s.unpred = false) (hdelayed : writesDelayed s.cfg = true) (h : exec i s = .next t) :
    t = s.setWq (s.gic.wq ++ [i]) := by
  obtain ⟨a, -, he⟩ := exec_distWrite s hw hd
  obtain ⟨hr, -⟩ := onDist_next (he.symm.trans h)
  rw [he, writeDist_delayed hr hs hdelayed] at h
  cases h
  rfl

/-- A write of ICDSGIR changes a pending SGI only where writes are immediate (R391). -/
theorem immediate_of_sgip_changed {a : DistArgs} {data : Word} (hs : s.unpred = false)
    (h : exec (.wrIcdsgir a data) s = .next t) (hne : sgipOf t c n src ≠ sgipOf s c n src) :
    Immediate s := by
  unfold Immediate
  cases hl : s.cfg.distWriteLatency with
  | immediate => rfl
  | delayed =>
    obtain rfl := exec_distWrite_delayed rfl rfl hs (writesDelayed_iff.mpr hl) h
    exact absurd rfl hne

/-- Everything a step that starts and ends with UNPRED clear can do to one pending SGI. -/
theorem step_sgip_cases (h : step s = .next t) (hs : s.unpred = false) (ht : t.unpred = false)
    (c : Cpu) (n : Nat) (src : Cpu) :
    sgipOf t c n src = sgipOf s c n src ∨
      (sgipOf t c n src = true ∧
        ((Immediate s ∧ ∃ x rest a d, s.inputs = x :: rest ∧
            x.instr s.cfg = some (.wrIcdsgir a d)) ∨
          ((s.inputs = [] ∨ ∃ rest, s.inputs = .applyWrite :: rest) ∧
            ∃ a d q, s.gic.wq = .wrIcdsgir a d :: q))) ∨
      (sgipOf t c n src = false ∧
        ((∃ rest, s.inputs = .reset :: rest) ∨
          ∃ x rest a, s.inputs = x :: rest ∧ x.instr s.cfg = some (.rdIcciar a) ∧ a.ifc = c)) := by
  by_cases hne : sgipOf t c n src = sgipOf s c n src
  · exact .inl hne
  refine .inr ?_
  obtain ⟨hq, hu, heq⟩ | ⟨x, rest, hq, ⟨rfl, heq⟩ | ⟨i, hi, he⟩ | he⟩ := step_effect h hs ht
  · have hround : sgipOf t c n src = sgipOf (applyWrite s) c n src := by
      rw [heq]
      exact sgipOf_evaluateAll _ c n src
    rw [hround] at hne ⊢
    obtain hsame | ⟨hwq, hon⟩ := sgipOf_applyWrite hu c n src
    · exact absurd hsame hne
    · exact .inl ⟨hon, .inr ⟨.inl hq, hwq⟩⟩
  · exact .inr ⟨by rw [heq]; simp [sgipOf, resetGic], .inl ⟨rest, hq⟩⟩
  · obtain hsame | ⟨⟨a, d, rfl⟩, hon⟩ | ⟨a, rfl, hc, hoff⟩ := he.sgip_cases ht c n src
    · exact absurd hsame hne
    · have himm : Immediate { s with inputs := rest } :=
        immediate_of_sgip_changed hs ((step_of_instr hq hi).symm.trans h) hne
      exact .inl ⟨hon, .inl ⟨himm, x, rest, a, d, hq, hi⟩⟩
    · exact .inr ⟨hoff, .inr ⟨x, rest, a, hq, hi, hc⟩⟩
  · obtain hsame | ⟨rfl, hwq, hon⟩ := he.sgip_cases ht c n src
    · exact absurd hsame hne
    · exact .inl ⟨hon, .inr ⟨.inr ⟨rest, hq⟩, hwq⟩⟩

end

/-- Settles O57: the cases of `step_sgip_cases` in which the pending state is not what it was. -/
theorem sgiPendingTransitions : Obligations.SgiPendingTransitions := by
  intro s t hs hstep ht c n src
  obtain hsame | ⟨hon, hsent⟩ | ⟨hoff, htaken⟩ := step_sgip_cases hstep hs ht c n src
  · rw [hsame]
    exact ⟨fun h h' => absurd (h.symm.trans h') (by decide),
      fun h h' => absurd (h.symm.trans h') (by decide)⟩
  · exact ⟨fun _ _ => hsent, fun _ h => absurd (h.symm.trans hon) (by decide)⟩
  · exact ⟨fun _ h => absurd (h.symm.trans hoff) (by decide), fun _ _ => htaken⟩

end Sys2Proof.Machine
end

section
/-! SUPPORT. What a read of ICCIAR obtains, through a window or otherwise, and what its value does in
ICCEOIR (R431 to R441): the statements about taking an interrupt and completing it, settled. -/

namespace Sys2Proof.Machine

/-! ## Double-acknowledge windows. -/

section
variable {s : State} {c : Cpu} {ns : Bool} {n : Nat}

/-- The open windows are those of the SPIs the implementation has identifiers for (R42). -/
theorem mem_openWindows : n ∈ openWindows s c ↔
    32 ≤ n ∧ n < maxId s.cfg ∧ (s.ifc c).ackWindow.getLsbD (slot c n) = true := by
  simp only [openWindows, List.mem_filter, List.mem_map, List.mem_range, ← and_assoc]
  refine and_congr_left fun _ => ⟨?_, fun h => ⟨n - 32, by omega, by omega⟩⟩
  rintro ⟨j, hj, rfl⟩
  omega

/-- With no open window no SPI is obtained through one (R441). -/
theorem windowSpi_of_closed (h : openWindows s c = []) : windowSpi s c ns = none := by
  unfold windowSpi
  rw [h]
  simp

/-- The SPI obtained through a window is one whose window is open, and is signalable (R441). -/
theorem windowSpi_open (h : windowSpi s c ns = some n) :
    n ∈ openWindows s c ∧ signalable s c n = true := by
  unfold windowSpi at h
  split at h
  · cases h
  split at h
  · cases h
  next m ms hm =>
  split at h
  · cases h
  split at h
  · cases h
  next k hk =>
  split at h
  · next hcond =>
    cases h
    simp only [Bool.and_eq_true] at hcond
    exact ⟨hm ▸ choose_mem hk, hcond.1.2⟩
  · cases h

theorem windowSpi_lt (h : windowSpi s c ns = some n) : n < 1020 := by
  obtain ⟨-, hlt, -⟩ := mem_openWindows.mp (windowSpi_open h).1
  exact Nat.lt_of_lt_of_le hlt (maxId_le s.cfg)

/-- Table 4-30 for an interrupt that is obtained (R432). -/
theorem iarSecurity_eq_valid {p : IntRef} (h : iarSecurity s c ns p = .valid p) :
    (s.cfg.secext = true → isSecureInt s c p.id = true → ns = false) ∧
      (s.cfg.secext = true → isSecureInt s c p.id = false → ns = false →
        (s.ifc c).ackCtl = true) := by
  refine ⟨fun hx hs => ?_, fun hx hs hns => ?_⟩
  · cases ns
    · rfl
    · rw [iarSecurity_secure hx hs] at h; cases h
  · subst hns
    cases ha : (s.ifc c).ackCtl
    · rw [iarSecurity_hidden hx hs ha] at h; cases h
    · rfl

end

/-- The word of an interrupt in ICCIAR as a number (R147). -/
theorem intWord_toNat_of_lt {p : IntRef} (h : p.id < 1024) :
    (intWord p).toNat = 1024 * p.src.val + p.id := by
  simp only [intWord, toNat_append_eq, BitVec.toNat_ofNat]
  omega

/-- The word of an SPI is its identifier (R147). -/
theorem intWord_spi {n : Nat} (h : n < 1024) :
    intWord { id := n, src := 0 } = BitVec.ofNat 32 n := by
  apply BitVec.eq_of_toNat_eq
  rw [intWord_toNat_of_lt h, BitVec.toNat_ofNat, Nat.mod_eq_of_lt (by omega)]
  exact Nat.zero_add n

/-- A read of ICCIAR that takes a window appends the SPI to AS(c) and closes the windows of the reader
(R441). -/
theorem readIar_window {s : State} {c : Cpu} {ns : Bool} {n : Nat}
    (h : windowSpi s c ns = some n) :
    readIar s c ns = (s.withIfc c { s.ifc c with
      active := (s.ifc c).active ++ [{ id := n, src := 0, pri := priOf s c n }]
      ackWindow := 0#1244 }).respond (BitVec.ofNat 32 n) := by
  have hlt := windowSpi_lt h
  simp only [readIar, h, intWord_spi (show n < 1024 by omega), pushActive, closeOwnWindows,
    State.withIfc_ifc_self]
  simp only [State.withIfc, Vector.set_set]

theorem CpuWordReady.exec_rdIcciar {s : State} {a : CpuArgs} (h : CpuWordReady s a) :
    exec (.rdIcciar a) s = .next (readIar s a.ifc a.ns).drawn := h.effect

/-- Settles O37: what is obtained through a window, and what the read then does. -/
theorem acknowledgeWindow : Obligations.AcknowledgeWindow := by
  intro s a h c
  refine ⟨fun hclosed => windowSpi_of_closed ?_, ?_⟩
  · refine List.eq_nil_iff_forall_not_mem.mpr fun n hn => ?_
    obtain ⟨h32, hlt, hopen⟩ := mem_openWindows.mp hn
    rw [hclosed n h32 (Nat.lt_of_lt_of_le hlt (maxId_le s.cfg))] at hopen
    cases hopen
  · refine (Option.eq_none_or_eq_some _).imp_right fun ⟨n, hw⟩ => ⟨n, hw, ?_⟩
    obtain ⟨hd, h32, hopen, hinactive⟩ := windowSpi_some hw
    obtain ⟨hsec, hnon⟩ := iarSecurity_eq_valid (windowSpi_security hw)
    have hexec : exec (.rdIcciar a) s = .next (readIar s c a.ns).drawn := h.effect
    refine ⟨of_decide_eq_true hd, h32, windowSpi_lt hw, hopen, hinactive, (windowSpi_open hw).2,
      hsec, hnon, ?_⟩
    rw [h.exec_rdIcciar, readIar_window hw]
    rfl

/-! ## Completing an interrupt with the value read. -/

/-- An interrupt that a read of ICCIAR can take: it is not active yet, its CPUID is one that ICCEOIR
accepts, and the access may acknowledge it. -/
structure Obtainable (s : State) (c : Cpu) (ns : Bool) (p : IntRef) : Prop where
  lt : p.id < 1020
  inactive : act s c p.id = false
  cpuid : (p.id < 16 ∧ cpuExists s.cfg p.src = true) ∨ p.src = 0
  security : iarSecurity s c ns p = .valid p

/-- State `t` is one in which interrupt p has joined the active list of interface c, everything active
in `s` before it. -/
def Taken (s : State) (c : Cpu) (p : IntRef) (t : State) : Prop :=
  ∀ d, (t.ifc d).active = if d = c
    then (s.ifc c).active ++ [{ id := p.id, src := p.src, pri := priOf s c p.id }]
    else (s.ifc d).active

section
variable {s t : State} {c : Cpu} {ns : Bool} {p : IntRef}

theorem Obtainable.of_window {n : Nat} (h : windowSpi s c ns = some n) :
    Obtainable s c ns { id := n, src := 0 } where
  lt := windowSpi_lt h
  inactive := by
    obtain ⟨-, -, -, hinactive⟩ := windowSpi_some h
    exact hinactive
  cpuid := .inr rfl
  security := windowSpi_security h

/-- The source of a candidate SGI is a processor that exists (R35). -/
theorem cand_source_exists (h : isCand s c p = true) (hn : p.id < 16) :
    cpuExists s.cfg p.src = true := by
  simp only [isCand, if_pos hn, candSgi, sgipOf, Bool.and_eq_true] at h
  obtain ⟨⟨-, ⟨-, hexists⟩, -⟩, -⟩ := h
  exact hexists

theorem Obtainable.of_hppi (h : iarValue s c ns = .valid p) : Obtainable s c ns p := by
  have hcand : isCand s c p = true := (mem_topCands.mp (hppi_mem (iarValue_valid h))).1
  refine ⟨implemented_lt (cand_implemented hcand), cand_not_act hcand, ?_, iarValue_security h⟩
  by_cases hn : p.id < 16
  · exact .inl ⟨hn, cand_source_exists hcand hn⟩
  · exact .inr (cand_src hcand (by omega))

/-- A read of ICCIAR answers a special identifier, or takes an interrupt and answers its word (R317,
R432, R441). -/
theorem readIar_taken (s : State) (c : Cpu) (ns : Bool) :
    1020 ≤ (readIar s c ns).gic.readData.toNat % 1024 ∨
      ∃ p, Obtainable s c ns p ∧ (readIar s c ns).gic.readData = intWord p ∧
        Taken s c p (readIar s c ns) := by
  obtain hw | ⟨n, hw⟩ := Option.eq_none_or_eq_some (windowSpi s c ns)
  · cases hv : iarValue s c ns with
    | spurious1023 =>
      rw [readIar_spurious hw (by simp [hv]), hv]
      exact .inl (show 1020 ≤ (0x3FF#32).toNat % 1024 by decide)
    | spurious1022 =>
      rw [readIar_spurious hw (by simp [hv]), hv]
      exact .inl (show 1020 ≤ (0x3FE#32).toNat % 1024 by decide)
    | valid p =>
      rw [readIar_valid hw hv]
      refine .inr ⟨p, .of_hppi hv, rfl, fun d => ?_⟩
      rw [State.respond_ifc, acknowledge_active, closeOwnWindows_active, closeOwnWindows_active]
      rfl
  · have hlt := windowSpi_lt hw
    rw [readIar_window hw]
    refine .inr ⟨_, .of_window hw, (intWord_spi (show n < 1024 by omega)).symm, fun d => ?_⟩
    rw [State.respond_ifc, State.withIfc_ifc]
    split <;> rfl

/-- Table 4-32 lets an access complete what it was allowed to acknowledge (R434, R435). -/
theorem eoiAllowed_of_obtained (h : iarSecurity s c ns p = .valid p) (hsame : SameControls s t)
    {e : ActiveEntry} (he : e.id = p.id) : EoiAllowed t c ns e := by
  obtain ⟨hsec, hnon⟩ := iarSecurity_eq_valid h
  have hsecure : isSecureInt t c e.id = isSecureInt s c p.id := by
    obtain ⟨hnsb, -⟩ := hsame.sameConfig c p.id
    rw [he, isSecureInt, isSecureInt, hnsb, hsame.cfg]
  have hack : (t.ifc c).ackCtl = (s.ifc c).ackCtl := by
    obtain ⟨-, hcontrols⟩ := hsame.sameSecureControls
    obtain ⟨-, hack, -⟩ := hcontrols c
    exact hack
  intro hx
  rw [hsame.cfg] at hx
  rw [hsecure, hack]
  split
  · next hs => exact hsec hx hs
  · next hs =>
    cases ns
    · exact .inr (hnon hx (Bool.eq_false_iff.mpr hs) rfl)
    · exact .inl rfl

/-- The CPUID read is the one ICCEOIR asks for: the source of an SGI in a multiprocessor, 0 in every
other case (R319). -/
theorem Obtainable.cpuidFits (h : Obtainable s c ns p) (hcfg : t.cfg = s.cfg) {e : ActiveEntry}
    (hid : e.id = p.id) (hsrc : e.src = p.src) : EoiCpuidFits t e p.src.val := by
  unfold EoiCpuidFits
  split
  · rw [hsrc]
  · next hother =>
    obtain ⟨hn, hexists⟩ | hzero := h.cpuid
    · have huni : ncpu s.cfg = 1 := by
        rw [hid, hcfg] at hother
        exact not_not.mp fun hmulti => hother ⟨hn, hmulti⟩
      have hlt : p.src.val < ncpu s.cfg := of_decide_eq_true hexists
      omega
    · rw [hzero]
      rfl

/-- The fields of the word of an interrupt, as ICCEOIR reads them (R319). -/
theorem intWord_fields (h : p.id < 1020) : ((intWord p).extractLsb' 0 10).toNat = p.id ∧
    ((intWord p).extractLsb' 10 3).toNat = p.src.val := by
  simp only [BitVec.extractLsb'_toNat, intWord_toNat_of_lt (show p.id < 1024 by omega),
    Nat.shiftRight_eq_div_pow]
  omega

/-- Where an interrupt has just been taken, its entry is the one ICCEOIR finds (R36). -/
theorem Taken.activeEntry_eq (h : Taken s c p t) (hn : act s c p.id = false) :
    activeEntry t c p.id = some { id := p.id, src := p.src, pri := priOf s c p.id } := by
  have hnone : (s.ifc c).active.find? (fun e => decide (e.id = p.id)) = none := by
    rw [act, List.any_eq_false] at hn
    exact List.find?_eq_none.mpr hn
  rw [activeEntry, h c, if_pos rfl, List.find?_append, hnone]
  simp

/-- Completing an interrupt that has just been taken restores the active lists (R453). -/
theorem Taken.deactivate_active_eq (h : Taken s c p t) (hn : act s c p.id = false) (d : Cpu) :
    ((deactivate t c p.id).ifc d).active = (s.ifc d).active := by
  rw [deactivate_active, h d, h c]
  by_cases hd : d = c
  · have hkept : (s.ifc c).active.filter (fun e => decide (e.id ≠ p.id)) = (s.ifc c).active := by
      rw [act, List.any_eq_false] at hn
      exact List.filter_eq_self.mpr fun e he => by simpa using hn e he
    rw [if_pos hd, if_pos rfl, List.filter_append, hkept, hd]
    simp
  · rw [if_neg hd, if_neg hd]

/-- The write of ICCEOIR with the word of an interrupt just taken returns from it (R453). -/
theorem writeEoi_taken (h : Obtainable s c ns p) (htaken : Taken s c p t)
    (hsame : SameControls s t) : writeEoi t c ns (intWord p) = deactivate t c p.id := by
  obtain ⟨hid, hcpuid⟩ := intWord_fields h.lt
  have hordinary : ¬ EoiSpecial t ((intWord p).extractLsb' 0 10).toNat := by
    have hlt := h.lt
    rw [hid]
    rintro (h3 | ⟨h2, -⟩) <;> omega
  obtain ⟨why, hw⟩ := writeEoi_active (ns := ns)
    (e := { id := p.id, src := p.src, pri := priOf s c p.id }) hordinary hid.symm
    (htaken.activeEntry_eq h.inactive)
  have hnewest : (t.ifc c).active.getLast? =
      some { id := p.id, src := p.src, pri := priOf s c p.id } := by
    rw [htaken c, if_pos rfl, List.getLast?_concat]
  rw [hw, hcpuid, if_pos (h.cpuidFits hsame.cfg rfl rfl),
    if_pos (eoiAllowed_of_obtained h.security hsame rfl), if_pos (.inl hnewest)]

end

/-! ### A word read of ICCIAR -/

section
variable {s t : State} {a : CpuArgs}

theorem CpuWordReady.eq_readIar (h : CpuWordReady s a) (hread : exec (.rdIcciar a) s = .next t) :
    t = (readIar s a.ifc a.ns).drawn := by
  rw [h.exec_rdIcciar] at hread
  cases hread
  rfl

theorem CpuWordReady.sameControls (h : CpuWordReady s a)
    (hread : exec (.rdIcciar a) s = .next t) : SameControls s t := by
  rw [h.eq_readIar hread]
  exact (SameControls.readIar s a.ifc a.ns).trans (.drawn _)

/-- The read answers a special identifier, or takes an interrupt and answers its word (R317). -/
theorem CpuWordReady.taken (h : CpuWordReady s a) (hread : exec (.rdIcciar a) s = .next t) :
    1020 ≤ t.gic.readData.toNat % 1024 ∨
      ∃ p, Obtainable s a.ifc a.ns p ∧ t.gic.readData = intWord p ∧ Taken s a.ifc p t := by
  rw [h.eq_readIar hread]
  exact readIar_taken s a.ifc a.ns

theorem readIar_unpred (s : State) (c : Cpu) (ns : Bool) : (readIar s c ns).unpred = s.unpred := by
  obtain ⟨v, he⟩ | ⟨p, v, -, he | he⟩ := readIar_cases s c ns <;> rw [he]
  · rfl
  · rfl
  · exact acknowledge_unpred (closeOwnWindows s c) c p

/-- The same access can be made again after the read. -/
theorem CpuWordReady.again (h : CpuWordReady s a) (hread : exec (.rdIcciar a) s = .next t) :
    CpuWordReady t a := by
  have hcfg := (h.sameControls hread).cfg
  have hunpred : t.unpred = s.unpred := by
    rw [h.eq_readIar hread]
    exact readIar_unpred s a.ifc a.ns
  unfold CpuWordReady
  rw [hcfg, hunpred]
  exact h

end

/-- Settles O39: the interrupt read passes every check of ICCEOIR, and its entry alone leaves. -/
theorem acknowledgeThenEnd : Obligations.AcknowledgeThenEnd := by
  intro s t a h hread hvalid
  obtain hspecial | ⟨p, hp, hdata, htaken⟩ := h.taken hread
  · exact absurd hvalid (Nat.not_lt.mpr hspecial)
  have hready := h.again hread
  have hend : exec (.wrIcceoir a t.gic.readData) t = .next (deactivate t a.ifc p.id) := by
    rw [hdata, ← writeEoi_taken hp htaken (h.sameControls hread)]
    exact hready.write
  refine ⟨_, hend, ?_, htaken.deactivate_active_eq hp.inactive⟩
  rw [deactivate_unpred]
  exact hready.1

/-! ## An SPI that is active somewhere is no candidate. -/

/-- An SPI that is active on some interface is a candidate on none (R423). -/
theorem cand_eq_false_of_act {s : State} {c d : Cpu} {n : Nat} (hn : 32 ≤ n)
    (h : act s c n = true) : cand s d n = false := by
  simp [cand, hn, act_actAny h]

/-- Settles O40: the SPI read has joined the active list of the reader. -/
theorem acknowledgedSpiIsNoCandidate : Obligations.AcknowledgedSpiIsNoCandidate := by
  intro s t a h hread n hn h32 hlt
  obtain hspecial | ⟨p, hp, hdata, htaken⟩ := h.taken hread
  · omega
  have hid : p.id = n := by
    have hp1020 := hp.lt
    rw [hn, hdata, intWord_toNat_of_lt (show p.id < 1024 by omega)]
    omega
  have hact : act t a.ifc n = true := by
    rw [act_eq_true, htaken a.ifc, if_pos rfl]
    exact ⟨_, List.mem_append_right _ List.mem_cons_self, hid⟩
  exact ⟨hact, fun d => cand_eq_false_of_act h32 hact⟩

end Sys2Proof.Machine
end

section
/-! SUPPORT. Prioritization (R423 to R428): the group priority, the signalable interrupts and the
candidates, the statements about them settled. -/

namespace Sys2Proof.Machine

/-! ## Group priorities. -/

/-- The bits of a byte from bit k up, as a number. -/
theorem toNat_and_upperBits (r : Byte) (k : Nat) :
    (r &&& (0xFF#8 <<< k)).toNat = r.toNat / 2 ^ k * 2 ^ k := by
  have hshift : r &&& (0xFF#8 <<< k) = (r >>> k) <<< k := by
    ext i hi
    have hones : ∀ j, j < 8 → (0xFF#8).getLsbD j = true := by decide
    by_cases hk : i < k
    · simp [hk]
    · have hj : k + (i - k) = i := by omega
      simp [hk, hj, hi, ← BitVec.getLsbD_eq_getElem, hones _ (show i - k < 8 by omega)]
  have hle : r.toNat / 2 ^ k * 2 ^ k < 2 ^ 8 :=
    Nat.lt_of_le_of_lt (Nat.div_mul_le_self _ _) r.isLt
  rw [hshift, BitVec.toNat_shiftLeft, BitVec.toNat_ushiftRight, Nat.shiftRight_eq_div_pow,
    Nat.shiftLeft_eq, Nat.mod_eq_of_lt hle]

/-- The lowest bit of the group priority field: that of the binary point, which is saturated at the
minimum, plus one but for the Non-secure split (R426). -/
theorem gicPriorityMask_eq (cfg : Config) (n : Nat) (ns : Bool) :
    gicPriorityMask cfg n ns = 0xFF#8 <<<
      (if ns = true then max n (minimumBinaryPoint cfg) else max n (minimumBinaryPoint cfg) + 1) := by
  have hmax : (if n < minimumBinaryPoint cfg then minimumBinaryPoint cfg else n) =
      max n (minimumBinaryPoint cfg) := by
    split <;> omega
  unfold gicPriorityMask
  simp only [hmax]

/-- To be higher than a masked priority is to have a smaller group priority field (R425, R426). -/
theorem priorityIsHigher_masked (p r : Byte) (k : Nat) :
    priorityIsHigher p (r &&& (0xFF#8 <<< k)) = true ↔ p.toNat / 2 ^ k < r.toNat / 2 ^ k := by
  rw [priorityIsHigher, decide_eq_true_eq, toNat_and_upperBits,
    Nat.div_lt_iff_lt_mul (Nat.two_pow_pos k)]

section
variable {s : State} {c : Cpu} {n : Nat}

/-- The binary point that applies to an interrupt (R427). -/
theorem groupMask_eq (s : State) (c : Cpu) (n : Nat) : groupMask s c n =
    if s.cfg.secext = false ∨ isSecureInt s c n = true ∨ (s.ifc c).sbpr = true
    then gicPriorityMask s.cfg (s.ifc c).bprS.toNat false
    else gicPriorityMask s.cfg (s.ifc c).bprNS.toNat true := by
  unfold groupMask
  cases s.cfg.secext
  · simp
  · simp

/-- The enable that applies to an interrupt (R427). -/
theorem ifcEnabledFor_eq_true : ifcEnabledFor s c n = true ↔
    if s.cfg.secext = false ∨ isSecureInt s c n = true then (s.ifc c).enableS = true
    else (s.ifc c).enableNS = true := by
  unfold ifcEnabledFor
  cases s.cfg.secext
  · simp
  · by_cases hsecure : isSecureInt s c n = true
    · simp [hsecure]
    · simp [hsecure]

/-- SufficientPriority (R427): above the priority mask, and nothing is active or a smallest active
priority, masked, is below the interrupt's (R49). -/
theorem sufficientPriority_iff : sufficientPriority s c n = true ↔
    (priOf s c n).toNat < (s.ifc c).pmr.toNat ∧
      ((s.ifc c).active = [] ∨ ∃ e ∈ (s.ifc c).active,
        (∀ e' ∈ (s.ifc c).active, (entryPriority s c e).toNat ≤ (entryPriority s c e').toNat) ∧
          (priOf s c n).toNat < (entryPriority s c e &&& groupMask s c n).toNat) := by
  rw [sufficientPriority, Bool.and_eq_true, priorityIsHigher, decide_eq_true_eq]
  refine and_congr_right fun _ => ?_
  cases hr : runningPriority s c with
  | none => simp [runningPriority_eq_none.mp hr]
  | some r =>
    have hactive : (s.ifc c).active ≠ [] := fun h => by
      rw [runningPriority_eq_none.mpr h] at hr; cases hr
    simp only [priorityIsHigher, decide_eq_true_eq, hactive, false_or]
    constructor
    · intro hp
      obtain ⟨e, he, rfl, hmin⟩ := runningPriority_eq_some.mp hr
      exact ⟨e, he, hmin, hp⟩
    · rintro ⟨e, he, hmin, hp⟩
      have hr' := runningPriority_eq_some.mpr ⟨e, he, rfl, hmin⟩
      obtain rfl : entryPriority s c e = r := Option.some.inj (hr'.symm.trans hr)
      exact hp

end

/-- Settles O43: the mask keeps the group priority field, and Signalable has its three conditions. -/
theorem groupPriorityCompare : Obligations.GroupPriorityCompare := by
  refine ⟨fun cfg n ns p r _ => ?_, fun s c n => ?_⟩
  · intro low
    rw [gicPriorityMask_eq]
    exact priorityIsHigher_masked p r low
  · intro priority mask
    rw [signalable, Bool.and_eq_true, sufficientPriority_iff, groupMask_eq, ifcEnabledFor_eq_true,
      and_assoc]
    rfl

/-! ## Candidates and the signalled interrupt. -/

/-- A candidate of an interface in the terms of R423, without the model's list of candidates. -/
def ForwardingCandidate (s : State) (c : Cpu) (p : IntRef) : Prop :=
  implemented s.cfg c p.id = true ∧ enOf s c p.id = true ∧ fwdEn s c p.id = true ∧
    act s c p.id = false ∧ (p.id < 16 → sgipOf s c p.id p.src = true) ∧
    (16 ≤ p.id → p.src = 0 ∧ pend s c p.id = true) ∧
    (32 ≤ p.id → (ncpu s.cfg = 1 ∨ (tgtOf s p.id).getLsbD c.val = true) ∧
      ∀ d, act s d p.id = false)

section
variable {s : State} {c : Cpu} {p : IntRef} {n : Nat}

theorem actAny_eq_false : actAny s n = false ↔ ∀ d, act s d n = false := by
  simp [actAny]

/-- A banked interrupt is forwarded to its interface, an SPI to its targets (R423). -/
theorem targeted_eq_true : targeted s c n = true ↔
    (32 ≤ n → ncpu s.cfg = 1 ∨ (tgtOf s n).getLsbD c.val = true) := by
  unfold targeted
  by_cases hn : n < 32
  · simp [hn]
  · simp [hn, Nat.le_of_not_lt hn]

/-- What Cand asks about the active state: not active on the interface, an SPI on none (R423). -/
theorem notActive_iff : (if 32 ≤ n then !actAny s n else !act s c n) = true ↔
    act s c n = false ∧ (32 ≤ n → ∀ d, act s d n = false) := by
  by_cases hn : 32 ≤ n
  · simp only [hn, if_true, Bool.not_eq_true', actAny_eq_false, forall_const]
    exact ⟨fun h => ⟨h c, h⟩, And.right⟩
  · simp [hn]

/-- The model's candidates are those of R423. -/
theorem isCand_iff : isCand s c p = true ↔ ForwardingCandidate s c p := by
  unfold isCand ForwardingCandidate
  by_cases hsgi : p.id < 16
  · have h15 : p.id ≤ 15 := by omega
    have h16 : ¬ 16 ≤ p.id := by omega
    have h32 : ¬ 32 ≤ p.id := by omega
    simp only [hsgi, if_true, candSgi, Bool.and_eq_true, decide_eq_true_eq, h15, true_and, h16, h32,
      false_imp_iff, and_true, true_imp_iff, Bool.not_eq_true', and_assoc]
    tauto
  · have h16 : 16 ≤ p.id := by omega
    have hpend : pend s c p.id = pendPeripheral s c p.id := if_neg hsgi
    simp only [hsgi, if_false, cand, Bool.and_eq_true, decide_eq_true_eq, h16, true_and,
      targeted_eq_true, notActive_iff, hpend, false_imp_iff, true_imp_iff, imp_and]
    constructor
    · rintro ⟨hsrc, ⟨⟨⟨⟨⟨-, himpl⟩, hen⟩, hfwd⟩, hpend⟩, htgt⟩, hact, hnone⟩
      exact ⟨himpl, hen, hfwd, hact, ⟨hsrc, hpend⟩, htgt, hnone⟩
    · rintro ⟨himpl, hen, hfwd, hact, ⟨hsrc, hpend⟩, htgt, hnone⟩
      have hmax : p.id ≤ 1019 := Nat.le_of_lt_succ (implemented_lt himpl)
      exact ⟨hsrc, ⟨⟨⟨⟨⟨hmax, himpl⟩, hen⟩, hfwd⟩, hpend⟩, htgt⟩, hact, hnone⟩

/-- HPPI(c) is none exactly if there is no candidate (R424). -/
theorem hppi_eq_none_iff : hppi s c = none ↔ ∀ p, ¬ ForwardingCandidate s c p := by
  simp only [hppi_eq_none, List.eq_nil_iff_forall_not_mem, mem_cands, isCand_iff]

/-- HPPI(c) is a candidate of the smallest priority value (R424). -/
theorem hppi_smallest (h : hppi s c = some p) : ForwardingCandidate s c p ∧
    ∀ q, ForwardingCandidate s c q → (priOf s c p.id).toNat ≤ (priOf s c q.id).toNat := by
  obtain ⟨hcand, hmin⟩ := mem_topCands.mp (hppi_mem h)
  exact ⟨isCand_iff.mp hcand, fun q hq => hmin q (isCand_iff.mpr hq)⟩

/-- An output is asserted only for a signalable highest priority pending interrupt (R428). -/
theorem hppi_of_asserted (h : (nextOutputs s c).1 = true ∨ (nextOutputs s c).2 = true) :
    ∃ p, hppi s c = some p ∧ signalable s c p.id = true := by
  obtain hirq | hfiq := h
  · obtain ⟨p, hp, hsig, -⟩ := (nextOutputs_irq s c).mp hirq
    exact ⟨p, hp, hsig⟩
  · obtain ⟨p, hp, hsig, -⟩ := (nextOutputs_fiq s c).mp hfiq
    exact ⟨p, hp, hsig⟩

end

/-- Settles O45: HPPI(c) is a smallest candidate, and the outputs are asserted for it alone. -/
theorem neverSignalsActive : Obligations.NeverSignalsActive := by
  intro s c candidate
  refine ⟨hppi_eq_none_iff, fun p hp => hppi_smallest hp, nextOutputs_not_both s c, fun h => ?_⟩
  obtain ⟨p, hp, hsig⟩ := hppi_of_asserted h
  exact ⟨p, hp, (hppi_smallest hp).1, hsig⟩

end Sys2Proof.Machine
end
